-- ==== Sys2Proof/Word.lean ====
section
/-! DEFINITION. The word types of The Machine (00_scope.md R4, R7): 32-bit registers, addresses and
instruction words, 8-bit bytes, 5-bit register numbers. -/

namespace Sys2Proof

/-- A fullword: a register, an address while it is computed, an instruction word (R4). -/
abbrev Word := BitVec 32

/-- A byte of memory (R4). -/
abbrev Byte := BitVec 8

/-- A register number, as a 5-bit register field of an instruction holds it (R4, R20). -/
abbrev Reg := BitVec 5

end Sys2Proof
end

