-- ==== Sys2Proof/Config.lean ====
section
/-! DEFINITION. What an implementation of The Machine fixes and the source leaves open
(00_scope.md R5, 92_eei_decisions.md). A parameter that a model "takes as an argument" is a field of
`Params`, which the state carries as plain data and no step changes; a value with no default in the
spec is an opaque constant, which no proof can evaluate. -/

namespace Sys2Proof

/-- `ENDIAN` (20_memory.md R63, D8): the byte order of data access and of instruction fetch. -/
inductive Endian where
  | big
  | little
  deriving DecidableEq, Repr, Inhabited

/-- `RRR_LOGIC_C` (40_alu_operations.md R161, D20): what a flag-setting RRR instruction whose second
operation is and, or, xor does to C. -/
inductive LogicCarry where
  | clear
  | keep
  deriving DecidableEq, Repr, Inhabited

/-- A range of byte addresses that exist: `base` up to, not including, `base + size`. -/
structure Region where
  base : Nat
  size : Nat
  deriving DecidableEq, Repr, Inhabited

/-- What `SPECIAL_REGS` may say of a register (00_scope.md R5, "hardwired values, side effects"; D4). -/
inductive RegBehaviour where
  /-- The register reads as this value and discards what is written to it. -/
  | hardwired (v : Word)
  /-- Reading it gives a free value, and every access has a free effect on registers and flags. -/
  | sideEffect
  deriving DecidableEq, Repr, Inhabited

/-- `FLAGS_ALIAS` (10_state.md R35, D6): the numbered register of which Z, N, V, C are bits, and their places. -/
structure FlagsAlias where
  reg : Reg
  z : Fin 32
  n : Fin 32
  v : Fin 32
  c : Fin 32
  deriving DecidableEq, Repr, Inhabited

/-- Four different places: where they are not, the alias describes no register and counts as none. -/
def FlagsAlias.distinct (a : FlagsAlias) : Bool := decide ([a.z, a.n, a.v, a.c].Nodup)

/-- The parameters of 00_scope.md R5 that a model takes as an argument. The others of that table are
decided there (`ISR_ACCESS`, `MISALIGNED`, `SLI_LATE`), are a draw or a function below (`SHL0_C`,
`CTX_SWITCH`), or concern a whole run (`ASYNC_SWITCH`, `RESET_STATE`, `HALT`). -/
structure Params where
  /-- `PC_READ_OFFSET` divided by 4 (10_state.md R27, D3): DEDUCED from 46_br.md R291, by which every
  branch target is a multiple of 4 (log entry 2). Unsafe if the chip's offset is no multiple of 4. -/
  pcReadOffsetWords : BitVec 30
  /-- `ENDIAN`. -/
  endian : Endian
  /-- `RRR_LOGIC_C`. -/
  rrrLogicC : LogicCarry
  /-- `HAS_SBR` (49_sbr.md R373, D39). -/
  hasSbr : Bool
  /-- `MEM_VALID` (20_memory.md R62, D7): the addresses that exist, as a union of ranges. -/
  memMap : List Region
  /-- `SPECIAL_REGS` (10_state.md R22, D4): the registers other than 2 and 31 that are no plain storage, by
  number. -/
  specialRegs : List (Reg × RegBehaviour)
  /-- `FLAGS_ALIAS` (10_state.md R35, D6). -/
  flagsAlias : Option FlagsAlias
  deriving DecidableEq, Repr, Inhabited

/-- `PC_READ_OFFSET`: what is added to an instruction's address to give what it reads from register 2. -/
def Params.pcReadOffset (p : Params) : Word := p.pcReadOffsetWords ++ 0#2

namespace Config

/-- `PC_READ_OFFSET` of the chip, in words: open, no default (R27). A free constant: log entry 2. -/
opaque pcReadOffsetWords : BitVec 30

/-- `RRR_LOGIC_C` of the chip: open, no default (R161). A free constant: log entry 5. -/
opaque rrrLogicC : LogicCarry

/-- `SHL0_C` (40_alu_operations.md R152, D16): what C becomes at the n-th flag-setting left shift by 0.
A free value: log entry 6. -/
opaque shl0C : Nat → Bool

/-- What is read from a register whose access has a side effect, at the n-th draw. A free value: log
entry 10. -/
opaque specialRead : Nat → Reg → Word

/-- The parameters at reset: the free constants where the spec gives no default, its default for
`ENDIAN` (big), `HAS_SBR` (true), `SPECIAL_REGS` (all plain storage) and `FLAGS_ALIAS` (none), and the whole
32-bit address space for `MEM_VALID` (DESIGN CHOICE, unsafe: log entries 3, 4, 7 and 10). -/
def params : Params :=
  { pcReadOffsetWords := pcReadOffsetWords
    endian := .big
    rrrLogicC := rrrLogicC
    hasSbr := true
    memMap := [⟨0, 2 ^ 32⟩]
    specialRegs := []
    flagsAlias := none }

end Config

end Sys2Proof
end

