-- ==== Sys2Proof/Syntax.lean ====
section
/-! DEFINITION. The instructions of The Machine: `Instr`, one constructor per row of
spec/opcode_table.json (30_encoding.md R132), with every field of its encoding, the ignored ones too
(R117), so that no bit of a word is lost; and `Form`, the eleven formats of R101 to R111 as the decoder
and the encoder see them. -/

namespace Sys2Proof

/-- The seven operations of codes 000 to 110 (40_alu_operations.md R140). -/
inductive BaseOp where
  | add | addc | sub | subb | and | or | xor
  deriving DecidableEq, Repr, Inhabited

/-- The nine operations of `alu` (40_alu_operations.md R155). -/
inductive AluOp where
  | add | addc | sub | subb | and | or | xor | sh | sha
  deriving DecidableEq, Repr, Inhabited

/-- The sixteen branch conditions (46_br.md R292), in the order of DDDI. -/
inductive Cond where
  | t | f | hi | ls | cc | cs | ne | eq | vc | vs | pl | mi | ge | lt | gt | le
  deriving DecidableEq, Repr, Inhabited

/-- The four addressing modes, PQ = 00, 01, 10, 11 (44_rm.md R241). -/
inductive Mode where
  | base | post | off | pre
  deriving DecidableEq, Repr, Inhabited

/-- AAA with H, as RI and RRR refine it (R101, R103): a non-shift operation with its H bit, or a shift. -/
inductive OpH where
  | plain (op : BaseOp) (h : Bool)
  | sh
  | sha
  deriving DecidableEq, Repr, Inhabited

/-- CCC, RRR's first operation (R211): 111 is always the arithmetic shift. -/
inductive Op1 where
  | base (op : BaseOp)
  | sha
  deriving DecidableEq, Repr, Inhabited

/-- BBB with JJJJJ, as RR refines it (R102): a non-shift operation with its ignored JJJJJ, or a shift. -/
inductive OpJ where
  | plain (op : BaseOp) (j : BitVec 5)
  | sh
  | sha
  deriving DecidableEq, Repr, Inhabited

/-- S with YLE, as RRM refines them for a non-shift address operation (45_rrm.md R262); `e` is the E bit
where it is ignored. -/
inductive RrmAcc where
  | ld (e : Bool)
  | ldh
  | ldhu
  | ldb
  | ldbu
  | st (e : Bool)
  | sth (e : Bool)
  | stb (e : Bool)
  deriving DecidableEq, Repr, Inhabited

/-- The operation and access fields of an RRM word (R105, R261, R262): with a shift the access is a
fullword and YLE is ignored. -/
inductive RrmForm where
  | plain (acc : RrmAcc) (op : BaseOp) (j : BitVec 5)
  | shifted (store arith : Bool) (yle : BitVec 3)
  deriving DecidableEq, Repr, Inhabited

/-- Y, S, E of SPLS (48_special_memory.md R355); `e` is the E bit where it is ignored. -/
inductive SplsAcc where
  | ldh
  | ldhu
  | ldb
  | ldbu
  | sth (e : Bool)
  | stb (e : Bool)
  deriving DecidableEq, Repr, Inhabited

/-- The eleven formats, with their fields (30_encoding.md R101 to R111). -/
inductive Form where
  | ri (op : OpH) (rd rs1 : Reg) (f : Bool) (k : BitVec 16)
  | rr (op : OpJ) (rd rs1 : Reg) (f : Bool) (rs2 : Reg)
  | rrr (op2 : OpH) (op1 : Op1) (rd rs1 : Reg) (f : Bool) (rs2 rs3 : Reg)
  | rm (store : Bool) (rd rs1 : Reg) (m : Mode) (k : BitVec 16)
  | rrm (form : RrmForm) (rd rs1 : Reg) (m : Mode) (rs2 : Reg)
  | br (rel : Bool) (c : Cond) (k : BitVec 23)
  | punt
  | sls (store : Bool) (rd : Reg) (a : BitVec 21)
  | sli (rd : Reg) (k : BitVec 21)
  | spls (acc : SplsAcc) (rd rs1 : Reg) (m : Mode) (k : BitVec 10)
  | sbr (c : Cond) (rs1 rs3 : Reg)
  deriving DecidableEq, Repr, Inhabited

/-- The formats that `RestrictedRd` names (60_exceptions.md R392). -/
inductive Format where
  | rrr | rm | rrm | sls | sli | spls
  deriving DecidableEq, Repr, Inhabited

/-- The register fields of rule R20, which `IsrAccess` names (60_exceptions.md R394). -/
inductive RegField where
  | rd | rs1 | rs2 | rs3
  deriving DecidableEq, Repr, Inhabited

/-- Why a word is no instruction (30_encoding.md R115, R116). -/
inductive DecodeError where
  | reservedEncoding (w : Word)
  | reservedBits (w : Word)
  deriving DecidableEq, Repr, Inhabited

/-- The 210 instructions. Fields: `rd rs1 rs2 rs3` registers; `f` the F bit; `h` the H bit; `k` the
constant; `a` the SLS address; `m` the mode PQ; `j`, `e`, `yle` the JJJJJ, E, YLE fields where they are
ignored. Each line names the row's mnemonic and its rule. -/
inductive Instr where
  | riAdd (rd rs1 : Reg) (f h : Bool) (k : BitVec 16)  -- ri.add, R173
  | riAddc (rd rs1 : Reg) (f h : Bool) (k : BitVec 16)  -- ri.addc, R174
  | riSub (rd rs1 : Reg) (f h : Bool) (k : BitVec 16)  -- ri.sub, R175
  | riSubb (rd rs1 : Reg) (f h : Bool) (k : BitVec 16)  -- ri.subb, R176
  | riAnd (rd rs1 : Reg) (f h : Bool) (k : BitVec 16)  -- ri.and, R177
  | riOr (rd rs1 : Reg) (f h : Bool) (k : BitVec 16)  -- ri.or, R178
  | riXor (rd rs1 : Reg) (f h : Bool) (k : BitVec 16)  -- ri.xor, R179
  | riSh (rd rs1 : Reg) (f : Bool) (k : BitVec 16)  -- ri.sh, R180
  | riSha (rd rs1 : Reg) (f : Bool) (k : BitVec 16)  -- ri.sha, R181
  | rrAdd (rd rs1 : Reg) (f : Bool) (rs2 : Reg) (j : BitVec 5)  -- rr.add, R193
  | rrAddc (rd rs1 : Reg) (f : Bool) (rs2 : Reg) (j : BitVec 5)  -- rr.addc, R194
  | rrSub (rd rs1 : Reg) (f : Bool) (rs2 : Reg) (j : BitVec 5)  -- rr.sub, R195
  | rrSubb (rd rs1 : Reg) (f : Bool) (rs2 : Reg) (j : BitVec 5)  -- rr.subb, R196
  | rrAnd (rd rs1 : Reg) (f : Bool) (rs2 : Reg) (j : BitVec 5)  -- rr.and, R197
  | rrOr (rd rs1 : Reg) (f : Bool) (rs2 : Reg) (j : BitVec 5)  -- rr.or, R198
  | rrXor (rd rs1 : Reg) (f : Bool) (rs2 : Reg) (j : BitVec 5)  -- rr.xor, R199
  | rrSh (rd rs1 : Reg) (f : Bool) (rs2 : Reg)  -- rr.sh, R200
  | rrSha (rd rs1 : Reg) (f : Bool) (rs2 : Reg)  -- rr.sha, R201
  | rrrAddAdd (rd rs1 : Reg) (f h : Bool) (rs2 rs3 : Reg)  -- rrr.add.add, R213 with R222
  | rrrAddAddc (rd rs1 : Reg) (f h : Bool) (rs2 rs3 : Reg)  -- rrr.add.addc, R213 with R223
  | rrrAddSub (rd rs1 : Reg) (f h : Bool) (rs2 rs3 : Reg)  -- rrr.add.sub, R213 with R224
  | rrrAddSubb (rd rs1 : Reg) (f h : Bool) (rs2 rs3 : Reg)  -- rrr.add.subb, R213 with R225
  | rrrAddAnd (rd rs1 : Reg) (f h : Bool) (rs2 rs3 : Reg)  -- rrr.add.and, R213 with R226
  | rrrAddOr (rd rs1 : Reg) (f h : Bool) (rs2 rs3 : Reg)  -- rrr.add.or, R213 with R227
  | rrrAddXor (rd rs1 : Reg) (f h : Bool) (rs2 rs3 : Reg)  -- rrr.add.xor, R213 with R228
  | rrrAddSha (rd rs1 : Reg) (f h : Bool) (rs2 rs3 : Reg)  -- rrr.add.sha, R213 with R229
  | rrrAddcAdd (rd rs1 : Reg) (f h : Bool) (rs2 rs3 : Reg)  -- rrr.addc.add, R214 with R222
  | rrrAddcAddc (rd rs1 : Reg) (f h : Bool) (rs2 rs3 : Reg)  -- rrr.addc.addc, R214 with R223
  | rrrAddcSub (rd rs1 : Reg) (f h : Bool) (rs2 rs3 : Reg)  -- rrr.addc.sub, R214 with R224
  | rrrAddcSubb (rd rs1 : Reg) (f h : Bool) (rs2 rs3 : Reg)  -- rrr.addc.subb, R214 with R225
  | rrrAddcAnd (rd rs1 : Reg) (f h : Bool) (rs2 rs3 : Reg)  -- rrr.addc.and, R214 with R226
  | rrrAddcOr (rd rs1 : Reg) (f h : Bool) (rs2 rs3 : Reg)  -- rrr.addc.or, R214 with R227
  | rrrAddcXor (rd rs1 : Reg) (f h : Bool) (rs2 rs3 : Reg)  -- rrr.addc.xor, R214 with R228
  | rrrAddcSha (rd rs1 : Reg) (f h : Bool) (rs2 rs3 : Reg)  -- rrr.addc.sha, R214 with R229
  | rrrSubAdd (rd rs1 : Reg) (f h : Bool) (rs2 rs3 : Reg)  -- rrr.sub.add, R215 with R222
  | rrrSubAddc (rd rs1 : Reg) (f h : Bool) (rs2 rs3 : Reg)  -- rrr.sub.addc, R215 with R223
  | rrrSubSub (rd rs1 : Reg) (f h : Bool) (rs2 rs3 : Reg)  -- rrr.sub.sub, R215 with R224
  | rrrSubSubb (rd rs1 : Reg) (f h : Bool) (rs2 rs3 : Reg)  -- rrr.sub.subb, R215 with R225
  | rrrSubAnd (rd rs1 : Reg) (f h : Bool) (rs2 rs3 : Reg)  -- rrr.sub.and, R215 with R226
  | rrrSubOr (rd rs1 : Reg) (f h : Bool) (rs2 rs3 : Reg)  -- rrr.sub.or, R215 with R227
  | rrrSubXor (rd rs1 : Reg) (f h : Bool) (rs2 rs3 : Reg)  -- rrr.sub.xor, R215 with R228
  | rrrSubSha (rd rs1 : Reg) (f h : Bool) (rs2 rs3 : Reg)  -- rrr.sub.sha, R215 with R229
  | rrrSubbAdd (rd rs1 : Reg) (f h : Bool) (rs2 rs3 : Reg)  -- rrr.subb.add, R216 with R222
  | rrrSubbAddc (rd rs1 : Reg) (f h : Bool) (rs2 rs3 : Reg)  -- rrr.subb.addc, R216 with R223
  | rrrSubbSub (rd rs1 : Reg) (f h : Bool) (rs2 rs3 : Reg)  -- rrr.subb.sub, R216 with R224
  | rrrSubbSubb (rd rs1 : Reg) (f h : Bool) (rs2 rs3 : Reg)  -- rrr.subb.subb, R216 with R225
  | rrrSubbAnd (rd rs1 : Reg) (f h : Bool) (rs2 rs3 : Reg)  -- rrr.subb.and, R216 with R226
  | rrrSubbOr (rd rs1 : Reg) (f h : Bool) (rs2 rs3 : Reg)  -- rrr.subb.or, R216 with R227
  | rrrSubbXor (rd rs1 : Reg) (f h : Bool) (rs2 rs3 : Reg)  -- rrr.subb.xor, R216 with R228
  | rrrSubbSha (rd rs1 : Reg) (f h : Bool) (rs2 rs3 : Reg)  -- rrr.subb.sha, R216 with R229
  | rrrAndAdd (rd rs1 : Reg) (f h : Bool) (rs2 rs3 : Reg)  -- rrr.and.add, R217 with R222
  | rrrAndAddc (rd rs1 : Reg) (f h : Bool) (rs2 rs3 : Reg)  -- rrr.and.addc, R217 with R223
  | rrrAndSub (rd rs1 : Reg) (f h : Bool) (rs2 rs3 : Reg)  -- rrr.and.sub, R217 with R224
  | rrrAndSubb (rd rs1 : Reg) (f h : Bool) (rs2 rs3 : Reg)  -- rrr.and.subb, R217 with R225
  | rrrAndAnd (rd rs1 : Reg) (f h : Bool) (rs2 rs3 : Reg)  -- rrr.and.and, R217 with R226
  | rrrAndOr (rd rs1 : Reg) (f h : Bool) (rs2 rs3 : Reg)  -- rrr.and.or, R217 with R227
  | rrrAndXor (rd rs1 : Reg) (f h : Bool) (rs2 rs3 : Reg)  -- rrr.and.xor, R217 with R228
  | rrrAndSha (rd rs1 : Reg) (f h : Bool) (rs2 rs3 : Reg)  -- rrr.and.sha, R217 with R229
  | rrrOrAdd (rd rs1 : Reg) (f h : Bool) (rs2 rs3 : Reg)  -- rrr.or.add, R218 with R222
  | rrrOrAddc (rd rs1 : Reg) (f h : Bool) (rs2 rs3 : Reg)  -- rrr.or.addc, R218 with R223
  | rrrOrSub (rd rs1 : Reg) (f h : Bool) (rs2 rs3 : Reg)  -- rrr.or.sub, R218 with R224
  | rrrOrSubb (rd rs1 : Reg) (f h : Bool) (rs2 rs3 : Reg)  -- rrr.or.subb, R218 with R225
  | rrrOrAnd (rd rs1 : Reg) (f h : Bool) (rs2 rs3 : Reg)  -- rrr.or.and, R218 with R226
  | rrrOrOr (rd rs1 : Reg) (f h : Bool) (rs2 rs3 : Reg)  -- rrr.or.or, R218 with R227
  | rrrOrXor (rd rs1 : Reg) (f h : Bool) (rs2 rs3 : Reg)  -- rrr.or.xor, R218 with R228
  | rrrOrSha (rd rs1 : Reg) (f h : Bool) (rs2 rs3 : Reg)  -- rrr.or.sha, R218 with R229
  | rrrXorAdd (rd rs1 : Reg) (f h : Bool) (rs2 rs3 : Reg)  -- rrr.xor.add, R219 with R222
  | rrrXorAddc (rd rs1 : Reg) (f h : Bool) (rs2 rs3 : Reg)  -- rrr.xor.addc, R219 with R223
  | rrrXorSub (rd rs1 : Reg) (f h : Bool) (rs2 rs3 : Reg)  -- rrr.xor.sub, R219 with R224
  | rrrXorSubb (rd rs1 : Reg) (f h : Bool) (rs2 rs3 : Reg)  -- rrr.xor.subb, R219 with R225
  | rrrXorAnd (rd rs1 : Reg) (f h : Bool) (rs2 rs3 : Reg)  -- rrr.xor.and, R219 with R226
  | rrrXorOr (rd rs1 : Reg) (f h : Bool) (rs2 rs3 : Reg)  -- rrr.xor.or, R219 with R227
  | rrrXorXor (rd rs1 : Reg) (f h : Bool) (rs2 rs3 : Reg)  -- rrr.xor.xor, R219 with R228
  | rrrXorSha (rd rs1 : Reg) (f h : Bool) (rs2 rs3 : Reg)  -- rrr.xor.sha, R219 with R229
  | rrrShAdd (rd rs1 : Reg) (f : Bool) (rs2 rs3 : Reg)  -- rrr.sh.add, R220 with R222
  | rrrShAddc (rd rs1 : Reg) (f : Bool) (rs2 rs3 : Reg)  -- rrr.sh.addc, R220 with R223
  | rrrShSub (rd rs1 : Reg) (f : Bool) (rs2 rs3 : Reg)  -- rrr.sh.sub, R220 with R224
  | rrrShSubb (rd rs1 : Reg) (f : Bool) (rs2 rs3 : Reg)  -- rrr.sh.subb, R220 with R225
  | rrrShAnd (rd rs1 : Reg) (f : Bool) (rs2 rs3 : Reg)  -- rrr.sh.and, R220 with R226
  | rrrShOr (rd rs1 : Reg) (f : Bool) (rs2 rs3 : Reg)  -- rrr.sh.or, R220 with R227
  | rrrShXor (rd rs1 : Reg) (f : Bool) (rs2 rs3 : Reg)  -- rrr.sh.xor, R220 with R228
  | rrrShSha (rd rs1 : Reg) (f : Bool) (rs2 rs3 : Reg)  -- rrr.sh.sha, R220 with R229
  | rrrShaAdd (rd rs1 : Reg) (f : Bool) (rs2 rs3 : Reg)  -- rrr.sha.add, R221 with R222
  | rrrShaAddc (rd rs1 : Reg) (f : Bool) (rs2 rs3 : Reg)  -- rrr.sha.addc, R221 with R223
  | rrrShaSub (rd rs1 : Reg) (f : Bool) (rs2 rs3 : Reg)  -- rrr.sha.sub, R221 with R224
  | rrrShaSubb (rd rs1 : Reg) (f : Bool) (rs2 rs3 : Reg)  -- rrr.sha.subb, R221 with R225
  | rrrShaAnd (rd rs1 : Reg) (f : Bool) (rs2 rs3 : Reg)  -- rrr.sha.and, R221 with R226
  | rrrShaOr (rd rs1 : Reg) (f : Bool) (rs2 rs3 : Reg)  -- rrr.sha.or, R221 with R227
  | rrrShaXor (rd rs1 : Reg) (f : Bool) (rs2 rs3 : Reg)  -- rrr.sha.xor, R221 with R228
  | rrrShaSha (rd rs1 : Reg) (f : Bool) (rs2 rs3 : Reg)  -- rrr.sha.sha, R221 with R229
  | rmLd (rd rs1 : Reg) (m : Mode) (k : BitVec 16)  -- rm.ld, R244
  | rmSt (rd rs1 : Reg) (m : Mode) (k : BitVec 16)  -- rm.st, R245
  | rrmLdAdd (rd rs1 : Reg) (m : Mode) (rs2 : Reg) (j : BitVec 5) (e : Bool)  -- rrm.ld.add, R266
  | rrmLdhAdd (rd rs1 : Reg) (m : Mode) (rs2 : Reg) (j : BitVec 5)  -- rrm.ldh.add, R267
  | rrmLdhuAdd (rd rs1 : Reg) (m : Mode) (rs2 : Reg) (j : BitVec 5)  -- rrm.ldhu.add, R268
  | rrmLdbAdd (rd rs1 : Reg) (m : Mode) (rs2 : Reg) (j : BitVec 5)  -- rrm.ldb.add, R269
  | rrmLdbuAdd (rd rs1 : Reg) (m : Mode) (rs2 : Reg) (j : BitVec 5)  -- rrm.ldbu.add, R270
  | rrmStAdd (rd rs1 : Reg) (m : Mode) (rs2 : Reg) (j : BitVec 5) (e : Bool)  -- rrm.st.add, R271
  | rrmSthAdd (rd rs1 : Reg) (m : Mode) (rs2 : Reg) (j : BitVec 5) (e : Bool)  -- rrm.sth.add, R272
  | rrmStbAdd (rd rs1 : Reg) (m : Mode) (rs2 : Reg) (j : BitVec 5) (e : Bool)  -- rrm.stb.add, R273
  | rrmLdAddc (rd rs1 : Reg) (m : Mode) (rs2 : Reg) (j : BitVec 5) (e : Bool)  -- rrm.ld.addc, R266
  | rrmLdhAddc (rd rs1 : Reg) (m : Mode) (rs2 : Reg) (j : BitVec 5)  -- rrm.ldh.addc, R267
  | rrmLdhuAddc (rd rs1 : Reg) (m : Mode) (rs2 : Reg) (j : BitVec 5)  -- rrm.ldhu.addc, R268
  | rrmLdbAddc (rd rs1 : Reg) (m : Mode) (rs2 : Reg) (j : BitVec 5)  -- rrm.ldb.addc, R269
  | rrmLdbuAddc (rd rs1 : Reg) (m : Mode) (rs2 : Reg) (j : BitVec 5)  -- rrm.ldbu.addc, R270
  | rrmStAddc (rd rs1 : Reg) (m : Mode) (rs2 : Reg) (j : BitVec 5) (e : Bool)  -- rrm.st.addc, R271
  | rrmSthAddc (rd rs1 : Reg) (m : Mode) (rs2 : Reg) (j : BitVec 5) (e : Bool)  -- rrm.sth.addc, R272
  | rrmStbAddc (rd rs1 : Reg) (m : Mode) (rs2 : Reg) (j : BitVec 5) (e : Bool)  -- rrm.stb.addc, R273
  | rrmLdSub (rd rs1 : Reg) (m : Mode) (rs2 : Reg) (j : BitVec 5) (e : Bool)  -- rrm.ld.sub, R266
  | rrmLdhSub (rd rs1 : Reg) (m : Mode) (rs2 : Reg) (j : BitVec 5)  -- rrm.ldh.sub, R267
  | rrmLdhuSub (rd rs1 : Reg) (m : Mode) (rs2 : Reg) (j : BitVec 5)  -- rrm.ldhu.sub, R268
  | rrmLdbSub (rd rs1 : Reg) (m : Mode) (rs2 : Reg) (j : BitVec 5)  -- rrm.ldb.sub, R269
  | rrmLdbuSub (rd rs1 : Reg) (m : Mode) (rs2 : Reg) (j : BitVec 5)  -- rrm.ldbu.sub, R270
  | rrmStSub (rd rs1 : Reg) (m : Mode) (rs2 : Reg) (j : BitVec 5) (e : Bool)  -- rrm.st.sub, R271
  | rrmSthSub (rd rs1 : Reg) (m : Mode) (rs2 : Reg) (j : BitVec 5) (e : Bool)  -- rrm.sth.sub, R272
  | rrmStbSub (rd rs1 : Reg) (m : Mode) (rs2 : Reg) (j : BitVec 5) (e : Bool)  -- rrm.stb.sub, R273
  | rrmLdSubb (rd rs1 : Reg) (m : Mode) (rs2 : Reg) (j : BitVec 5) (e : Bool)  -- rrm.ld.subb, R266
  | rrmLdhSubb (rd rs1 : Reg) (m : Mode) (rs2 : Reg) (j : BitVec 5)  -- rrm.ldh.subb, R267
  | rrmLdhuSubb (rd rs1 : Reg) (m : Mode) (rs2 : Reg) (j : BitVec 5)  -- rrm.ldhu.subb, R268
  | rrmLdbSubb (rd rs1 : Reg) (m : Mode) (rs2 : Reg) (j : BitVec 5)  -- rrm.ldb.subb, R269
  | rrmLdbuSubb (rd rs1 : Reg) (m : Mode) (rs2 : Reg) (j : BitVec 5)  -- rrm.ldbu.subb, R270
  | rrmStSubb (rd rs1 : Reg) (m : Mode) (rs2 : Reg) (j : BitVec 5) (e : Bool)  -- rrm.st.subb, R271
  | rrmSthSubb (rd rs1 : Reg) (m : Mode) (rs2 : Reg) (j : BitVec 5) (e : Bool)  -- rrm.sth.subb, R272
  | rrmStbSubb (rd rs1 : Reg) (m : Mode) (rs2 : Reg) (j : BitVec 5) (e : Bool)  -- rrm.stb.subb, R273
  | rrmLdAnd (rd rs1 : Reg) (m : Mode) (rs2 : Reg) (j : BitVec 5) (e : Bool)  -- rrm.ld.and, R266
  | rrmLdhAnd (rd rs1 : Reg) (m : Mode) (rs2 : Reg) (j : BitVec 5)  -- rrm.ldh.and, R267
  | rrmLdhuAnd (rd rs1 : Reg) (m : Mode) (rs2 : Reg) (j : BitVec 5)  -- rrm.ldhu.and, R268
  | rrmLdbAnd (rd rs1 : Reg) (m : Mode) (rs2 : Reg) (j : BitVec 5)  -- rrm.ldb.and, R269
  | rrmLdbuAnd (rd rs1 : Reg) (m : Mode) (rs2 : Reg) (j : BitVec 5)  -- rrm.ldbu.and, R270
  | rrmStAnd (rd rs1 : Reg) (m : Mode) (rs2 : Reg) (j : BitVec 5) (e : Bool)  -- rrm.st.and, R271
  | rrmSthAnd (rd rs1 : Reg) (m : Mode) (rs2 : Reg) (j : BitVec 5) (e : Bool)  -- rrm.sth.and, R272
  | rrmStbAnd (rd rs1 : Reg) (m : Mode) (rs2 : Reg) (j : BitVec 5) (e : Bool)  -- rrm.stb.and, R273
  | rrmLdOr (rd rs1 : Reg) (m : Mode) (rs2 : Reg) (j : BitVec 5) (e : Bool)  -- rrm.ld.or, R266
  | rrmLdhOr (rd rs1 : Reg) (m : Mode) (rs2 : Reg) (j : BitVec 5)  -- rrm.ldh.or, R267
  | rrmLdhuOr (rd rs1 : Reg) (m : Mode) (rs2 : Reg) (j : BitVec 5)  -- rrm.ldhu.or, R268
  | rrmLdbOr (rd rs1 : Reg) (m : Mode) (rs2 : Reg) (j : BitVec 5)  -- rrm.ldb.or, R269
  | rrmLdbuOr (rd rs1 : Reg) (m : Mode) (rs2 : Reg) (j : BitVec 5)  -- rrm.ldbu.or, R270
  | rrmStOr (rd rs1 : Reg) (m : Mode) (rs2 : Reg) (j : BitVec 5) (e : Bool)  -- rrm.st.or, R271
  | rrmSthOr (rd rs1 : Reg) (m : Mode) (rs2 : Reg) (j : BitVec 5) (e : Bool)  -- rrm.sth.or, R272
  | rrmStbOr (rd rs1 : Reg) (m : Mode) (rs2 : Reg) (j : BitVec 5) (e : Bool)  -- rrm.stb.or, R273
  | rrmLdXor (rd rs1 : Reg) (m : Mode) (rs2 : Reg) (j : BitVec 5) (e : Bool)  -- rrm.ld.xor, R266
  | rrmLdhXor (rd rs1 : Reg) (m : Mode) (rs2 : Reg) (j : BitVec 5)  -- rrm.ldh.xor, R267
  | rrmLdhuXor (rd rs1 : Reg) (m : Mode) (rs2 : Reg) (j : BitVec 5)  -- rrm.ldhu.xor, R268
  | rrmLdbXor (rd rs1 : Reg) (m : Mode) (rs2 : Reg) (j : BitVec 5)  -- rrm.ldb.xor, R269
  | rrmLdbuXor (rd rs1 : Reg) (m : Mode) (rs2 : Reg) (j : BitVec 5)  -- rrm.ldbu.xor, R270
  | rrmStXor (rd rs1 : Reg) (m : Mode) (rs2 : Reg) (j : BitVec 5) (e : Bool)  -- rrm.st.xor, R271
  | rrmSthXor (rd rs1 : Reg) (m : Mode) (rs2 : Reg) (j : BitVec 5) (e : Bool)  -- rrm.sth.xor, R272
  | rrmStbXor (rd rs1 : Reg) (m : Mode) (rs2 : Reg) (j : BitVec 5) (e : Bool)  -- rrm.stb.xor, R273
  | rrmLdSh (rd rs1 : Reg) (m : Mode) (rs2 : Reg) (yle : BitVec 3)  -- rrm.ld.sh, R274
  | rrmLdSha (rd rs1 : Reg) (m : Mode) (rs2 : Reg) (yle : BitVec 3)  -- rrm.ld.sha, R275
  | rrmStSh (rd rs1 : Reg) (m : Mode) (rs2 : Reg) (yle : BitVec 3)  -- rrm.st.sh, R276
  | rrmStSha (rd rs1 : Reg) (m : Mode) (rs2 : Reg) (yle : BitVec 3)  -- rrm.st.sha, R277
  | brT (k : BitVec 23)  -- br.t, R296
  | brF (k : BitVec 23)  -- br.f, R297
  | brHi (k : BitVec 23)  -- br.hi, R298
  | brLs (k : BitVec 23)  -- br.ls, R299
  | brCc (k : BitVec 23)  -- br.cc, R300
  | brCs (k : BitVec 23)  -- br.cs, R301
  | brNe (k : BitVec 23)  -- br.ne, R302
  | brEq (k : BitVec 23)  -- br.eq, R303
  | brVc (k : BitVec 23)  -- br.vc, R304
  | brVs (k : BitVec 23)  -- br.vs, R305
  | brPl (k : BitVec 23)  -- br.pl, R306
  | brMi (k : BitVec 23)  -- br.mi, R307
  | brGe (k : BitVec 23)  -- br.ge, R308
  | brLt (k : BitVec 23)  -- br.lt, R309
  | brGt (k : BitVec 23)  -- br.gt, R310
  | brLe (k : BitVec 23)  -- br.le, R311
  | brrT (k : BitVec 23)  -- brr.t, R312
  | brrF (k : BitVec 23)  -- brr.f, R313
  | brrHi (k : BitVec 23)  -- brr.hi, R314
  | brrLs (k : BitVec 23)  -- brr.ls, R315
  | brrCc (k : BitVec 23)  -- brr.cc, R316
  | brrCs (k : BitVec 23)  -- brr.cs, R317
  | brrNe (k : BitVec 23)  -- brr.ne, R318
  | brrEq (k : BitVec 23)  -- brr.eq, R319
  | brrVc (k : BitVec 23)  -- brr.vc, R320
  | brrVs (k : BitVec 23)  -- brr.vs, R321
  | brrPl (k : BitVec 23)  -- brr.pl, R322
  | brrMi (k : BitVec 23)  -- brr.mi, R323
  | brrGe (k : BitVec 23)  -- brr.ge, R324
  | brrLt (k : BitVec 23)  -- brr.lt, R325
  | brrGt (k : BitVec 23)  -- brr.gt, R326
  | brrLe (k : BitVec 23)  -- brr.le, R327
  | punt  -- punt, R330
  | slsLd (rd : Reg) (a : BitVec 21)  -- sls.ld, R341
  | slsSt (rd : Reg) (a : BitVec 21)  -- sls.st, R342
  | sli (rd : Reg) (k : BitVec 21)  -- sli, R350
  | splsLdh (rd rs1 : Reg) (m : Mode) (k : BitVec 10)  -- spls.ldh, R357
  | splsLdhu (rd rs1 : Reg) (m : Mode) (k : BitVec 10)  -- spls.ldhu, R358
  | splsLdb (rd rs1 : Reg) (m : Mode) (k : BitVec 10)  -- spls.ldb, R359
  | splsLdbu (rd rs1 : Reg) (m : Mode) (k : BitVec 10)  -- spls.ldbu, R360
  | splsSth (rd rs1 : Reg) (m : Mode) (e : Bool) (k : BitVec 10)  -- spls.sth, R361
  | splsStb (rd rs1 : Reg) (m : Mode) (e : Bool) (k : BitVec 10)  -- spls.stb, R362
  | sbrT (rs1 rs3 : Reg)  -- sbr.t, R374
  | sbrF (rs1 rs3 : Reg)  -- sbr.f, R375
  | sbrHi (rs1 rs3 : Reg)  -- sbr.hi, R376
  | sbrLs (rs1 rs3 : Reg)  -- sbr.ls, R377
  | sbrCc (rs1 rs3 : Reg)  -- sbr.cc, R378
  | sbrCs (rs1 rs3 : Reg)  -- sbr.cs, R379
  | sbrNe (rs1 rs3 : Reg)  -- sbr.ne, R380
  | sbrEq (rs1 rs3 : Reg)  -- sbr.eq, R381
  | sbrVc (rs1 rs3 : Reg)  -- sbr.vc, R382
  | sbrVs (rs1 rs3 : Reg)  -- sbr.vs, R383
  | sbrPl (rs1 rs3 : Reg)  -- sbr.pl, R384
  | sbrMi (rs1 rs3 : Reg)  -- sbr.mi, R385
  | sbrGe (rs1 rs3 : Reg)  -- sbr.ge, R386
  | sbrLt (rs1 rs3 : Reg)  -- sbr.lt, R387
  | sbrGt (rs1 rs3 : Reg)  -- sbr.gt, R388
  | sbrLe (rs1 rs3 : Reg)  -- sbr.le, R389
  deriving DecidableEq, Repr

end Sys2Proof
end

