-- ==== Sys2Proof/Decode.lean ====
section
/-! DEFINITION. Decoding (30_encoding.md R113 to R117) and encoding (R101 to R112) of instruction words,
through the eleven formats, and the byte layout of a fullword (20_memory.md R64). `decode` is total: a
word that is no instruction is rejected by name. -/

namespace Sys2Proof

/-! ## Bit fields -/

/-- The field of `len` bits of `w` whose lowest bit is `lo` (00_scope.md R6). -/
def fld (w : Word) (lo len : Nat) : BitVec len := w.extractLsb' lo len

/-- Bit `i` of `w`. -/
def bit (w : Word) (i : Nat) : Bool := w.getLsbD i

/-! ## The operation codes (40_alu_operations.md R140) -/

def BaseOp.bits : BaseOp → BitVec 3
  | .add => 0#3 | .addc => 1#3 | .sub => 2#3 | .subb => 3#3 | .and => 4#3 | .or => 5#3 | .xor => 6#3

/-- `none` is code 111: a shift, refined by another field (R140). -/
def BaseOp.ofBits (b : BitVec 3) : Option BaseOp :=
  match b.toNat with
  | 0 => some .add | 1 => some .addc | 2 => some .sub | 3 => some .subb
  | 4 => some .and | 5 => some .or | 6 => some .xor | _ => none

/-- The AAA code and the H bit of RI and RRR. -/
def OpH.aaa : OpH → BitVec 3
  | .plain op _ => op.bits | .sh => 7#3 | .sha => 7#3

def OpH.h : OpH → Bool
  | .plain _ h => h | .sh => false | .sha => true

def OpH.ofBits (aaa : BitVec 3) (h : Bool) : OpH :=
  match BaseOp.ofBits aaa with
  | some op => .plain op h
  | none => if h then .sha else .sh

def Op1.bits : Op1 → BitVec 3
  | .base op => op.bits | .sha => 7#3

def Op1.ofBits (ccc : BitVec 3) : Op1 :=
  match BaseOp.ofBits ccc with
  | some op => .base op
  | none => .sha

def OpJ.bbb : OpJ → BitVec 3
  | .plain op _ => op.bits | .sh => 7#3 | .sha => 7#3

/-- JJJJJ: 10000 is the logical shift, 11000 the arithmetic one (R102). -/
def OpJ.jjjjj : OpJ → BitVec 5
  | .plain _ j => j | .sh => 16#5 | .sha => 24#5

def Mode.bits : Mode → BitVec 2
  | .base => 0#2 | .post => 1#2 | .off => 2#2 | .pre => 3#2

def Mode.ofBits (pq : BitVec 2) : Mode :=
  match pq.toNat with
  | 0 => .base | 1 => .post | 2 => .off | _ => .pre

/-- DDD of a condition (46_br.md R292). -/
def Cond.ddd : Cond → BitVec 3
  | .t => 0#3 | .f => 0#3 | .hi => 1#3 | .ls => 1#3 | .cc => 2#3 | .cs => 2#3 | .ne => 3#3 | .eq => 3#3
  | .vc => 4#3 | .vs => 4#3 | .pl => 5#3 | .mi => 5#3 | .ge => 6#3 | .lt => 6#3 | .gt => 7#3 | .le => 7#3

/-- I of a condition: the inverted sense (R292). -/
def Cond.inv : Cond → Bool
  | .t => false | .f => true | .hi => false | .ls => true | .cc => false | .cs => true | .ne => false
  | .eq => true | .vc => false | .vs => true | .pl => false | .mi => true | .ge => false | .lt => true
  | .gt => false | .le => true

def Cond.ofBits (ddd : BitVec 3) (i : Bool) : Cond :=
  match ddd.toNat, i with
  | 0, false => .t | 0, true => .f | 1, false => .hi | 1, true => .ls
  | 2, false => .cc | 2, true => .cs | 3, false => .ne | 3, true => .eq
  | 4, false => .vc | 4, true => .vs | 5, false => .pl | 5, true => .mi
  | 6, false => .ge | 6, true => .lt | _, false => .gt | _, true => .le

/-- The S bit of an RRM access. -/
def RrmAcc.store : RrmAcc → Bool
  | .ld _ => false | .ldh => false | .ldhu => false | .ldb => false | .ldbu => false
  | .st _ => true | .sth _ => true | .stb _ => true

/-- The Y, L and E bits of an RRM access (45_rrm.md R262). -/
def RrmAcc.y : RrmAcc → Bool
  | .ldb => true | .ldbu => true | .stb _ => true
  | .ld _ => false | .ldh => false | .ldhu => false | .st _ => false | .sth _ => false

def RrmAcc.l : RrmAcc → Bool
  | .ld _ => true | .st _ => true
  | .ldh => false | .ldhu => false | .ldb => false | .ldbu => false | .sth _ => false | .stb _ => false

def RrmAcc.e : RrmAcc → Bool
  | .ld e => e | .ldh => false | .ldhu => true | .ldb => false | .ldbu => true
  | .st e => e | .sth e => e | .stb e => e

/-- The access of S, Y, L, E; `none` is YL = 11, reserved (45_rrm.md R263). -/
def RrmAcc.ofBits (s y l e : Bool) : Option RrmAcc :=
  match y, l with
  | false, true => some (if s then .st e else .ld e)
  | false, false => some (if s then .sth e else if e then .ldhu else .ldh)
  | true, false => some (if s then .stb e else if e then .ldbu else .ldb)
  | true, true => none

/-- The Y, S and E bits of an SPLS access (48_special_memory.md R355). -/
def SplsAcc.y : SplsAcc → Bool
  | .ldh => false | .ldhu => false | .sth _ => false
  | .ldb => true | .ldbu => true | .stb _ => true

def SplsAcc.s : SplsAcc → Bool
  | .sth _ => true | .stb _ => true
  | .ldh => false | .ldhu => false | .ldb => false | .ldbu => false

def SplsAcc.e : SplsAcc → Bool
  | .ldh => false | .ldhu => true | .ldb => false | .ldbu => true | .sth e => e | .stb e => e

def SplsAcc.ofBits (y s e : Bool) : SplsAcc :=
  match s, y with
  | false, false => if e then .ldhu else .ldh
  | false, true => if e then .ldbu else .ldb
  | true, false => .sth e
  | true, true => .stb e

/-! ## Formats to words (30_encoding.md R101 to R111) -/

/-- The S bit, BBB, JJJJJ, Y, L and E of an RRM word (R105). -/
def RrmForm.s : RrmForm → Bool
  | .plain acc _ _ => acc.store | .shifted store _ _ => store

def RrmForm.bbb : RrmForm → BitVec 3
  | .plain _ op _ => op.bits | .shifted _ _ _ => 7#3

def RrmForm.jjjjj : RrmForm → BitVec 5
  | .plain _ _ j => j | .shifted _ arith _ => if arith then 24#5 else 16#5

def RrmForm.y : RrmForm → Bool
  | .plain acc _ _ => acc.y | .shifted _ _ yle => yle.getLsbD 2

def RrmForm.l : RrmForm → Bool
  | .plain acc _ _ => acc.l | .shifted _ _ yle => yle.getLsbD 1

def RrmForm.e : RrmForm → Bool
  | .plain acc _ _ => acc.e | .shifted _ _ yle => yle.getLsbD 0

/-- A field `x` in place: its lowest bit at bit `lo` of a word, every other bit 0. -/
def put (lo : Nat) {n : Nat} (x : BitVec n) : Word := x.setWidth 32 <<< lo

/-- A one-bit field in place. -/
def putBit (lo : Nat) (b : Bool) : Word := put lo (BitVec.ofBool b)

/-- The word of each format, field by field from bit 31 down (R101 to R111), reserved bits 0 (R115). -/
def encodeForm : Form → Word
  | .ri op rd rs1 f k =>
      put 31 0#1 ||| put 28 op.aaa ||| put 23 rd ||| put 18 rs1 ||| putBit 17 f ||| putBit 16 op.h |||
        put 0 k
  | .rr op rd rs1 f rs2 =>
      put 28 12#4 ||| put 23 rd ||| put 18 rs1 ||| putBit 17 f ||| put 16 0#1 ||| put 11 rs2 |||
        put 8 op.bbb ||| put 3 op.jjjjj ||| put 0 0#3
  | .rrr op2 op1 rd rs1 f rs2 rs3 =>
      put 28 13#4 ||| put 23 rd ||| put 18 rs1 ||| putBit 17 f ||| putBit 16 op2.h ||| put 11 rs2 |||
        put 8 op2.aaa ||| put 3 rs3 ||| put 0 op1.bits
  | .rm store rd rs1 m k =>
      put 29 4#3 ||| putBit 28 store ||| put 23 rd ||| put 18 rs1 ||| put 16 m.bits ||| put 0 k
  | .rrm form rd rs1 m rs2 =>
      put 29 5#3 ||| putBit 28 form.s ||| put 23 rd ||| put 18 rs1 ||| put 16 m.bits ||| put 11 rs2 |||
        put 8 form.bbb ||| put 3 form.jjjjj ||| putBit 2 form.y ||| putBit 1 form.l ||| putBit 0 form.e
  | .br rel c k => put 28 14#4 ||| put 25 c.ddd ||| put 2 k ||| putBit 1 rel ||| putBit 0 c.inv
  | .punt =>
      put 28 15#4 ||| put 18 0#10 ||| put 8 1023#10 ||| put 7 0#1 ||| put 6 1#1 ||| put 3 0#3 ||| put 0 7#3
  | .sls store rd a =>
      put 28 15#4 ||| put 23 rd ||| put 18 (a.extractLsb' 16 5) ||| put 17 0#1 ||| putBit 16 store |||
        put 0 (a.extractLsb' 0 16)
  | .sli rd k =>
      put 28 15#4 ||| put 23 rd ||| put 18 (k.extractLsb' 16 5) ||| put 16 2#2 |||
        put 0 (k.extractLsb' 0 16)
  | .spls acc rd rs1 m k =>
      put 28 15#4 ||| put 23 rd ||| put 18 rs1 ||| put 15 6#3 ||| putBit 14 acc.y ||| putBit 13 acc.s |||
        putBit 12 acc.e ||| put 10 m.bits ||| put 0 k
  | .sbr c rs1 rs3 =>
      put 28 15#4 ||| put 25 c.ddd ||| put 23 0#2 ||| put 18 rs1 ||| put 8 960#10 ||| put 3 rs3 |||
        put 1 0#2 ||| putBit 0 c.inv

/-! ## Words to formats (30_encoding.md R113 to R116)

Within a format `ReservedEncoding` is reported before `ReservedBits` (60_exceptions.md R394). -/

/-- The register fields and the F bit of an RR word. -/
def rrFields (w : Word) (op : OpJ) : Form := .rr op (fld w 23 5) (fld w 18 5) (bit w 17) (fld w 11 5)

/-- RR (R102, R190): with BBB = 111, bit 7 must be 1 and bit 6 selects the shift. -/
def decodeRr (w : Word) : Except DecodeError Form :=
  match BaseOp.ofBits (fld w 8 3) with
  | some op =>
    if !bit w 16 && fld w 0 3 == 0#3 then .ok (rrFields w (.plain op (fld w 3 5)))
    else .error (.reservedBits w)
  | none =>
    if bit w 7 then
      if !bit w 16 && fld w 0 3 == 0#3 && fld w 3 3 == 0#3 then
        .ok (rrFields w (if bit w 6 then .sha else .sh))
      else .error (.reservedBits w)
    else .error (.reservedEncoding w)

/-- The register fields and the mode of an RRM word. -/
def rrmFields (w : Word) (x : RrmForm) : Form :=
  .rrm x (fld w 23 5) (fld w 18 5) (Mode.ofBits (fld w 16 2)) (fld w 11 5)

/-- RRM (R105, R261 to R263). -/
def decodeRrm (w : Word) : Except DecodeError Form :=
  match BaseOp.ofBits (fld w 8 3) with
  | some op =>
    match RrmAcc.ofBits (bit w 28) (bit w 2) (bit w 1) (bit w 0) with
    | some acc => .ok (rrmFields w (.plain acc op (fld w 3 5)))
    | none => .error (.reservedEncoding w)
  | none =>
    if bit w 7 then
      if fld w 3 3 == 0#3 then .ok (rrmFields w (.shifted (bit w 28) (bit w 6) (fld w 0 3)))
      else .error (.reservedBits w)
    else .error (.reservedEncoding w)

/-- PUNT and SBR: opcode 1111 with bits 17:15 = 111 (R107, R111, R114). Without `HAS_SBR` the SBR
pattern is a reserved encoding (49_sbr.md R373). -/
def decodePuntSbr (hasSbr : Bool) (w : Word) : Except DecodeError Form :=
  if fld w 8 7 == 127#7 && bit w 6 && fld w 0 3 == 7#3 then
    if fld w 18 10 == 0#10 && !bit w 7 && fld w 3 3 == 0#3 then .ok .punt
    else .error (.reservedBits w)
  else if fld w 8 7 == 64#7 && fld w 1 2 == 0#2 && hasSbr then
    if fld w 23 2 == 0#2 then
      .ok (.sbr (Cond.ofBits (fld w 25 3) (bit w 0)) (fld w 18 5) (fld w 3 5))
    else .error (.reservedBits w)
  else .error (.reservedEncoding w)

/-- Opcode 1111 (R114). -/
def decodeSpecial (hasSbr : Bool) (w : Word) : Except DecodeError Form :=
  if bit w 17 then
    if bit w 16 then
      if bit w 15 then decodePuntSbr hasSbr w
      else .ok (.spls (SplsAcc.ofBits (bit w 14) (bit w 13) (bit w 12)) (fld w 23 5) (fld w 18 5)
        (Mode.ofBits (fld w 10 2)) (fld w 0 10))
    else .ok (.sli (fld w 23 5) (fld w 18 5 ++ fld w 0 16))
  else .ok (.sls (bit w 16) (fld w 23 5) (fld w 18 5 ++ fld w 0 16))

/-- The format and fields of a word: bits 31:28 first (R113). -/
def decodeForm (hasSbr : Bool) (w : Word) : Except DecodeError Form :=
  match (fld w 28 4).toNat with
  | 8 | 9 => .ok (.rm (bit w 28) (fld w 23 5) (fld w 18 5) (Mode.ofBits (fld w 16 2)) (fld w 0 16))
  | 10 | 11 => decodeRrm w
  | 12 => decodeRr w
  | 13 => .ok (.rrr (OpH.ofBits (fld w 8 3) (bit w 16)) (Op1.ofBits (fld w 0 3)) (fld w 23 5)
      (fld w 18 5) (bit w 17) (fld w 11 5) (fld w 3 5))
  | 14 => .ok (.br (bit w 1) (Cond.ofBits (fld w 25 3) (bit w 0)) (fld w 2 23))
  | 15 => decodeSpecial hasSbr w
  | _ => .ok (.ri (OpH.ofBits (fld w 28 3) (bit w 16)) (fld w 23 5) (fld w 18 5) (bit w 17)
      (fld w 0 16))

/-! ## Formats and instructions: one constructor of `Instr` per row of the opcode table (R132) -/

/-- The format and fields of an instruction. -/
def Instr.form : Instr → Form
  | .riAdd rd rs1 f h k => .ri (.plain .add h) rd rs1 f k
  | .riAddc rd rs1 f h k => .ri (.plain .addc h) rd rs1 f k
  | .riSub rd rs1 f h k => .ri (.plain .sub h) rd rs1 f k
  | .riSubb rd rs1 f h k => .ri (.plain .subb h) rd rs1 f k
  | .riAnd rd rs1 f h k => .ri (.plain .and h) rd rs1 f k
  | .riOr rd rs1 f h k => .ri (.plain .or h) rd rs1 f k
  | .riXor rd rs1 f h k => .ri (.plain .xor h) rd rs1 f k
  | .riSh rd rs1 f k => .ri .sh rd rs1 f k
  | .riSha rd rs1 f k => .ri .sha rd rs1 f k
  | .rrAdd rd rs1 f rs2 j => .rr (.plain .add j) rd rs1 f rs2
  | .rrAddc rd rs1 f rs2 j => .rr (.plain .addc j) rd rs1 f rs2
  | .rrSub rd rs1 f rs2 j => .rr (.plain .sub j) rd rs1 f rs2
  | .rrSubb rd rs1 f rs2 j => .rr (.plain .subb j) rd rs1 f rs2
  | .rrAnd rd rs1 f rs2 j => .rr (.plain .and j) rd rs1 f rs2
  | .rrOr rd rs1 f rs2 j => .rr (.plain .or j) rd rs1 f rs2
  | .rrXor rd rs1 f rs2 j => .rr (.plain .xor j) rd rs1 f rs2
  | .rrSh rd rs1 f rs2 => .rr .sh rd rs1 f rs2
  | .rrSha rd rs1 f rs2 => .rr .sha rd rs1 f rs2
  | .rrrAddAdd rd rs1 f h rs2 rs3 => .rrr (.plain .add h) (.base .add) rd rs1 f rs2 rs3
  | .rrrAddAddc rd rs1 f h rs2 rs3 => .rrr (.plain .add h) (.base .addc) rd rs1 f rs2 rs3
  | .rrrAddSub rd rs1 f h rs2 rs3 => .rrr (.plain .add h) (.base .sub) rd rs1 f rs2 rs3
  | .rrrAddSubb rd rs1 f h rs2 rs3 => .rrr (.plain .add h) (.base .subb) rd rs1 f rs2 rs3
  | .rrrAddAnd rd rs1 f h rs2 rs3 => .rrr (.plain .add h) (.base .and) rd rs1 f rs2 rs3
  | .rrrAddOr rd rs1 f h rs2 rs3 => .rrr (.plain .add h) (.base .or) rd rs1 f rs2 rs3
  | .rrrAddXor rd rs1 f h rs2 rs3 => .rrr (.plain .add h) (.base .xor) rd rs1 f rs2 rs3
  | .rrrAddSha rd rs1 f h rs2 rs3 => .rrr (.plain .add h) .sha rd rs1 f rs2 rs3
  | .rrrAddcAdd rd rs1 f h rs2 rs3 => .rrr (.plain .addc h) (.base .add) rd rs1 f rs2 rs3
  | .rrrAddcAddc rd rs1 f h rs2 rs3 => .rrr (.plain .addc h) (.base .addc) rd rs1 f rs2 rs3
  | .rrrAddcSub rd rs1 f h rs2 rs3 => .rrr (.plain .addc h) (.base .sub) rd rs1 f rs2 rs3
  | .rrrAddcSubb rd rs1 f h rs2 rs3 => .rrr (.plain .addc h) (.base .subb) rd rs1 f rs2 rs3
  | .rrrAddcAnd rd rs1 f h rs2 rs3 => .rrr (.plain .addc h) (.base .and) rd rs1 f rs2 rs3
  | .rrrAddcOr rd rs1 f h rs2 rs3 => .rrr (.plain .addc h) (.base .or) rd rs1 f rs2 rs3
  | .rrrAddcXor rd rs1 f h rs2 rs3 => .rrr (.plain .addc h) (.base .xor) rd rs1 f rs2 rs3
  | .rrrAddcSha rd rs1 f h rs2 rs3 => .rrr (.plain .addc h) .sha rd rs1 f rs2 rs3
  | .rrrSubAdd rd rs1 f h rs2 rs3 => .rrr (.plain .sub h) (.base .add) rd rs1 f rs2 rs3
  | .rrrSubAddc rd rs1 f h rs2 rs3 => .rrr (.plain .sub h) (.base .addc) rd rs1 f rs2 rs3
  | .rrrSubSub rd rs1 f h rs2 rs3 => .rrr (.plain .sub h) (.base .sub) rd rs1 f rs2 rs3
  | .rrrSubSubb rd rs1 f h rs2 rs3 => .rrr (.plain .sub h) (.base .subb) rd rs1 f rs2 rs3
  | .rrrSubAnd rd rs1 f h rs2 rs3 => .rrr (.plain .sub h) (.base .and) rd rs1 f rs2 rs3
  | .rrrSubOr rd rs1 f h rs2 rs3 => .rrr (.plain .sub h) (.base .or) rd rs1 f rs2 rs3
  | .rrrSubXor rd rs1 f h rs2 rs3 => .rrr (.plain .sub h) (.base .xor) rd rs1 f rs2 rs3
  | .rrrSubSha rd rs1 f h rs2 rs3 => .rrr (.plain .sub h) .sha rd rs1 f rs2 rs3
  | .rrrSubbAdd rd rs1 f h rs2 rs3 => .rrr (.plain .subb h) (.base .add) rd rs1 f rs2 rs3
  | .rrrSubbAddc rd rs1 f h rs2 rs3 => .rrr (.plain .subb h) (.base .addc) rd rs1 f rs2 rs3
  | .rrrSubbSub rd rs1 f h rs2 rs3 => .rrr (.plain .subb h) (.base .sub) rd rs1 f rs2 rs3
  | .rrrSubbSubb rd rs1 f h rs2 rs3 => .rrr (.plain .subb h) (.base .subb) rd rs1 f rs2 rs3
  | .rrrSubbAnd rd rs1 f h rs2 rs3 => .rrr (.plain .subb h) (.base .and) rd rs1 f rs2 rs3
  | .rrrSubbOr rd rs1 f h rs2 rs3 => .rrr (.plain .subb h) (.base .or) rd rs1 f rs2 rs3
  | .rrrSubbXor rd rs1 f h rs2 rs3 => .rrr (.plain .subb h) (.base .xor) rd rs1 f rs2 rs3
  | .rrrSubbSha rd rs1 f h rs2 rs3 => .rrr (.plain .subb h) .sha rd rs1 f rs2 rs3
  | .rrrAndAdd rd rs1 f h rs2 rs3 => .rrr (.plain .and h) (.base .add) rd rs1 f rs2 rs3
  | .rrrAndAddc rd rs1 f h rs2 rs3 => .rrr (.plain .and h) (.base .addc) rd rs1 f rs2 rs3
  | .rrrAndSub rd rs1 f h rs2 rs3 => .rrr (.plain .and h) (.base .sub) rd rs1 f rs2 rs3
  | .rrrAndSubb rd rs1 f h rs2 rs3 => .rrr (.plain .and h) (.base .subb) rd rs1 f rs2 rs3
  | .rrrAndAnd rd rs1 f h rs2 rs3 => .rrr (.plain .and h) (.base .and) rd rs1 f rs2 rs3
  | .rrrAndOr rd rs1 f h rs2 rs3 => .rrr (.plain .and h) (.base .or) rd rs1 f rs2 rs3
  | .rrrAndXor rd rs1 f h rs2 rs3 => .rrr (.plain .and h) (.base .xor) rd rs1 f rs2 rs3
  | .rrrAndSha rd rs1 f h rs2 rs3 => .rrr (.plain .and h) .sha rd rs1 f rs2 rs3
  | .rrrOrAdd rd rs1 f h rs2 rs3 => .rrr (.plain .or h) (.base .add) rd rs1 f rs2 rs3
  | .rrrOrAddc rd rs1 f h rs2 rs3 => .rrr (.plain .or h) (.base .addc) rd rs1 f rs2 rs3
  | .rrrOrSub rd rs1 f h rs2 rs3 => .rrr (.plain .or h) (.base .sub) rd rs1 f rs2 rs3
  | .rrrOrSubb rd rs1 f h rs2 rs3 => .rrr (.plain .or h) (.base .subb) rd rs1 f rs2 rs3
  | .rrrOrAnd rd rs1 f h rs2 rs3 => .rrr (.plain .or h) (.base .and) rd rs1 f rs2 rs3
  | .rrrOrOr rd rs1 f h rs2 rs3 => .rrr (.plain .or h) (.base .or) rd rs1 f rs2 rs3
  | .rrrOrXor rd rs1 f h rs2 rs3 => .rrr (.plain .or h) (.base .xor) rd rs1 f rs2 rs3
  | .rrrOrSha rd rs1 f h rs2 rs3 => .rrr (.plain .or h) .sha rd rs1 f rs2 rs3
  | .rrrXorAdd rd rs1 f h rs2 rs3 => .rrr (.plain .xor h) (.base .add) rd rs1 f rs2 rs3
  | .rrrXorAddc rd rs1 f h rs2 rs3 => .rrr (.plain .xor h) (.base .addc) rd rs1 f rs2 rs3
  | .rrrXorSub rd rs1 f h rs2 rs3 => .rrr (.plain .xor h) (.base .sub) rd rs1 f rs2 rs3
  | .rrrXorSubb rd rs1 f h rs2 rs3 => .rrr (.plain .xor h) (.base .subb) rd rs1 f rs2 rs3
  | .rrrXorAnd rd rs1 f h rs2 rs3 => .rrr (.plain .xor h) (.base .and) rd rs1 f rs2 rs3
  | .rrrXorOr rd rs1 f h rs2 rs3 => .rrr (.plain .xor h) (.base .or) rd rs1 f rs2 rs3
  | .rrrXorXor rd rs1 f h rs2 rs3 => .rrr (.plain .xor h) (.base .xor) rd rs1 f rs2 rs3
  | .rrrXorSha rd rs1 f h rs2 rs3 => .rrr (.plain .xor h) .sha rd rs1 f rs2 rs3
  | .rrrShAdd rd rs1 f rs2 rs3 => .rrr .sh (.base .add) rd rs1 f rs2 rs3
  | .rrrShAddc rd rs1 f rs2 rs3 => .rrr .sh (.base .addc) rd rs1 f rs2 rs3
  | .rrrShSub rd rs1 f rs2 rs3 => .rrr .sh (.base .sub) rd rs1 f rs2 rs3
  | .rrrShSubb rd rs1 f rs2 rs3 => .rrr .sh (.base .subb) rd rs1 f rs2 rs3
  | .rrrShAnd rd rs1 f rs2 rs3 => .rrr .sh (.base .and) rd rs1 f rs2 rs3
  | .rrrShOr rd rs1 f rs2 rs3 => .rrr .sh (.base .or) rd rs1 f rs2 rs3
  | .rrrShXor rd rs1 f rs2 rs3 => .rrr .sh (.base .xor) rd rs1 f rs2 rs3
  | .rrrShSha rd rs1 f rs2 rs3 => .rrr .sh .sha rd rs1 f rs2 rs3
  | .rrrShaAdd rd rs1 f rs2 rs3 => .rrr .sha (.base .add) rd rs1 f rs2 rs3
  | .rrrShaAddc rd rs1 f rs2 rs3 => .rrr .sha (.base .addc) rd rs1 f rs2 rs3
  | .rrrShaSub rd rs1 f rs2 rs3 => .rrr .sha (.base .sub) rd rs1 f rs2 rs3
  | .rrrShaSubb rd rs1 f rs2 rs3 => .rrr .sha (.base .subb) rd rs1 f rs2 rs3
  | .rrrShaAnd rd rs1 f rs2 rs3 => .rrr .sha (.base .and) rd rs1 f rs2 rs3
  | .rrrShaOr rd rs1 f rs2 rs3 => .rrr .sha (.base .or) rd rs1 f rs2 rs3
  | .rrrShaXor rd rs1 f rs2 rs3 => .rrr .sha (.base .xor) rd rs1 f rs2 rs3
  | .rrrShaSha rd rs1 f rs2 rs3 => .rrr .sha .sha rd rs1 f rs2 rs3
  | .rmLd rd rs1 m k => .rm false rd rs1 m k
  | .rmSt rd rs1 m k => .rm true rd rs1 m k
  | .rrmLdAdd rd rs1 m rs2 j e => .rrm (.plain (.ld e) .add j) rd rs1 m rs2
  | .rrmLdhAdd rd rs1 m rs2 j => .rrm (.plain .ldh .add j) rd rs1 m rs2
  | .rrmLdhuAdd rd rs1 m rs2 j => .rrm (.plain .ldhu .add j) rd rs1 m rs2
  | .rrmLdbAdd rd rs1 m rs2 j => .rrm (.plain .ldb .add j) rd rs1 m rs2
  | .rrmLdbuAdd rd rs1 m rs2 j => .rrm (.plain .ldbu .add j) rd rs1 m rs2
  | .rrmStAdd rd rs1 m rs2 j e => .rrm (.plain (.st e) .add j) rd rs1 m rs2
  | .rrmSthAdd rd rs1 m rs2 j e => .rrm (.plain (.sth e) .add j) rd rs1 m rs2
  | .rrmStbAdd rd rs1 m rs2 j e => .rrm (.plain (.stb e) .add j) rd rs1 m rs2
  | .rrmLdAddc rd rs1 m rs2 j e => .rrm (.plain (.ld e) .addc j) rd rs1 m rs2
  | .rrmLdhAddc rd rs1 m rs2 j => .rrm (.plain .ldh .addc j) rd rs1 m rs2
  | .rrmLdhuAddc rd rs1 m rs2 j => .rrm (.plain .ldhu .addc j) rd rs1 m rs2
  | .rrmLdbAddc rd rs1 m rs2 j => .rrm (.plain .ldb .addc j) rd rs1 m rs2
  | .rrmLdbuAddc rd rs1 m rs2 j => .rrm (.plain .ldbu .addc j) rd rs1 m rs2
  | .rrmStAddc rd rs1 m rs2 j e => .rrm (.plain (.st e) .addc j) rd rs1 m rs2
  | .rrmSthAddc rd rs1 m rs2 j e => .rrm (.plain (.sth e) .addc j) rd rs1 m rs2
  | .rrmStbAddc rd rs1 m rs2 j e => .rrm (.plain (.stb e) .addc j) rd rs1 m rs2
  | .rrmLdSub rd rs1 m rs2 j e => .rrm (.plain (.ld e) .sub j) rd rs1 m rs2
  | .rrmLdhSub rd rs1 m rs2 j => .rrm (.plain .ldh .sub j) rd rs1 m rs2
  | .rrmLdhuSub rd rs1 m rs2 j => .rrm (.plain .ldhu .sub j) rd rs1 m rs2
  | .rrmLdbSub rd rs1 m rs2 j => .rrm (.plain .ldb .sub j) rd rs1 m rs2
  | .rrmLdbuSub rd rs1 m rs2 j => .rrm (.plain .ldbu .sub j) rd rs1 m rs2
  | .rrmStSub rd rs1 m rs2 j e => .rrm (.plain (.st e) .sub j) rd rs1 m rs2
  | .rrmSthSub rd rs1 m rs2 j e => .rrm (.plain (.sth e) .sub j) rd rs1 m rs2
  | .rrmStbSub rd rs1 m rs2 j e => .rrm (.plain (.stb e) .sub j) rd rs1 m rs2
  | .rrmLdSubb rd rs1 m rs2 j e => .rrm (.plain (.ld e) .subb j) rd rs1 m rs2
  | .rrmLdhSubb rd rs1 m rs2 j => .rrm (.plain .ldh .subb j) rd rs1 m rs2
  | .rrmLdhuSubb rd rs1 m rs2 j => .rrm (.plain .ldhu .subb j) rd rs1 m rs2
  | .rrmLdbSubb rd rs1 m rs2 j => .rrm (.plain .ldb .subb j) rd rs1 m rs2
  | .rrmLdbuSubb rd rs1 m rs2 j => .rrm (.plain .ldbu .subb j) rd rs1 m rs2
  | .rrmStSubb rd rs1 m rs2 j e => .rrm (.plain (.st e) .subb j) rd rs1 m rs2
  | .rrmSthSubb rd rs1 m rs2 j e => .rrm (.plain (.sth e) .subb j) rd rs1 m rs2
  | .rrmStbSubb rd rs1 m rs2 j e => .rrm (.plain (.stb e) .subb j) rd rs1 m rs2
  | .rrmLdAnd rd rs1 m rs2 j e => .rrm (.plain (.ld e) .and j) rd rs1 m rs2
  | .rrmLdhAnd rd rs1 m rs2 j => .rrm (.plain .ldh .and j) rd rs1 m rs2
  | .rrmLdhuAnd rd rs1 m rs2 j => .rrm (.plain .ldhu .and j) rd rs1 m rs2
  | .rrmLdbAnd rd rs1 m rs2 j => .rrm (.plain .ldb .and j) rd rs1 m rs2
  | .rrmLdbuAnd rd rs1 m rs2 j => .rrm (.plain .ldbu .and j) rd rs1 m rs2
  | .rrmStAnd rd rs1 m rs2 j e => .rrm (.plain (.st e) .and j) rd rs1 m rs2
  | .rrmSthAnd rd rs1 m rs2 j e => .rrm (.plain (.sth e) .and j) rd rs1 m rs2
  | .rrmStbAnd rd rs1 m rs2 j e => .rrm (.plain (.stb e) .and j) rd rs1 m rs2
  | .rrmLdOr rd rs1 m rs2 j e => .rrm (.plain (.ld e) .or j) rd rs1 m rs2
  | .rrmLdhOr rd rs1 m rs2 j => .rrm (.plain .ldh .or j) rd rs1 m rs2
  | .rrmLdhuOr rd rs1 m rs2 j => .rrm (.plain .ldhu .or j) rd rs1 m rs2
  | .rrmLdbOr rd rs1 m rs2 j => .rrm (.plain .ldb .or j) rd rs1 m rs2
  | .rrmLdbuOr rd rs1 m rs2 j => .rrm (.plain .ldbu .or j) rd rs1 m rs2
  | .rrmStOr rd rs1 m rs2 j e => .rrm (.plain (.st e) .or j) rd rs1 m rs2
  | .rrmSthOr rd rs1 m rs2 j e => .rrm (.plain (.sth e) .or j) rd rs1 m rs2
  | .rrmStbOr rd rs1 m rs2 j e => .rrm (.plain (.stb e) .or j) rd rs1 m rs2
  | .rrmLdXor rd rs1 m rs2 j e => .rrm (.plain (.ld e) .xor j) rd rs1 m rs2
  | .rrmLdhXor rd rs1 m rs2 j => .rrm (.plain .ldh .xor j) rd rs1 m rs2
  | .rrmLdhuXor rd rs1 m rs2 j => .rrm (.plain .ldhu .xor j) rd rs1 m rs2
  | .rrmLdbXor rd rs1 m rs2 j => .rrm (.plain .ldb .xor j) rd rs1 m rs2
  | .rrmLdbuXor rd rs1 m rs2 j => .rrm (.plain .ldbu .xor j) rd rs1 m rs2
  | .rrmStXor rd rs1 m rs2 j e => .rrm (.plain (.st e) .xor j) rd rs1 m rs2
  | .rrmSthXor rd rs1 m rs2 j e => .rrm (.plain (.sth e) .xor j) rd rs1 m rs2
  | .rrmStbXor rd rs1 m rs2 j e => .rrm (.plain (.stb e) .xor j) rd rs1 m rs2
  | .rrmLdSh rd rs1 m rs2 yle => .rrm (.shifted false false yle) rd rs1 m rs2
  | .rrmLdSha rd rs1 m rs2 yle => .rrm (.shifted false true yle) rd rs1 m rs2
  | .rrmStSh rd rs1 m rs2 yle => .rrm (.shifted true false yle) rd rs1 m rs2
  | .rrmStSha rd rs1 m rs2 yle => .rrm (.shifted true true yle) rd rs1 m rs2
  | .brT k => .br false .t k
  | .brF k => .br false .f k
  | .brHi k => .br false .hi k
  | .brLs k => .br false .ls k
  | .brCc k => .br false .cc k
  | .brCs k => .br false .cs k
  | .brNe k => .br false .ne k
  | .brEq k => .br false .eq k
  | .brVc k => .br false .vc k
  | .brVs k => .br false .vs k
  | .brPl k => .br false .pl k
  | .brMi k => .br false .mi k
  | .brGe k => .br false .ge k
  | .brLt k => .br false .lt k
  | .brGt k => .br false .gt k
  | .brLe k => .br false .le k
  | .brrT k => .br true .t k
  | .brrF k => .br true .f k
  | .brrHi k => .br true .hi k
  | .brrLs k => .br true .ls k
  | .brrCc k => .br true .cc k
  | .brrCs k => .br true .cs k
  | .brrNe k => .br true .ne k
  | .brrEq k => .br true .eq k
  | .brrVc k => .br true .vc k
  | .brrVs k => .br true .vs k
  | .brrPl k => .br true .pl k
  | .brrMi k => .br true .mi k
  | .brrGe k => .br true .ge k
  | .brrLt k => .br true .lt k
  | .brrGt k => .br true .gt k
  | .brrLe k => .br true .le k
  | .punt => .punt
  | .slsLd rd a => .sls false rd a
  | .slsSt rd a => .sls true rd a
  | .sli rd k => .sli rd k
  | .splsLdh rd rs1 m k => .spls .ldh rd rs1 m k
  | .splsLdhu rd rs1 m k => .spls .ldhu rd rs1 m k
  | .splsLdb rd rs1 m k => .spls .ldb rd rs1 m k
  | .splsLdbu rd rs1 m k => .spls .ldbu rd rs1 m k
  | .splsSth rd rs1 m e k => .spls (.sth e) rd rs1 m k
  | .splsStb rd rs1 m e k => .spls (.stb e) rd rs1 m k
  | .sbrT rs1 rs3 => .sbr .t rs1 rs3
  | .sbrF rs1 rs3 => .sbr .f rs1 rs3
  | .sbrHi rs1 rs3 => .sbr .hi rs1 rs3
  | .sbrLs rs1 rs3 => .sbr .ls rs1 rs3
  | .sbrCc rs1 rs3 => .sbr .cc rs1 rs3
  | .sbrCs rs1 rs3 => .sbr .cs rs1 rs3
  | .sbrNe rs1 rs3 => .sbr .ne rs1 rs3
  | .sbrEq rs1 rs3 => .sbr .eq rs1 rs3
  | .sbrVc rs1 rs3 => .sbr .vc rs1 rs3
  | .sbrVs rs1 rs3 => .sbr .vs rs1 rs3
  | .sbrPl rs1 rs3 => .sbr .pl rs1 rs3
  | .sbrMi rs1 rs3 => .sbr .mi rs1 rs3
  | .sbrGe rs1 rs3 => .sbr .ge rs1 rs3
  | .sbrLt rs1 rs3 => .sbr .lt rs1 rs3
  | .sbrGt rs1 rs3 => .sbr .gt rs1 rs3
  | .sbrLe rs1 rs3 => .sbr .le rs1 rs3

/-- The instruction of a format and its fields. -/
def Form.instr : Form → Instr
  | .ri (.plain .add h) rd rs1 f k => .riAdd rd rs1 f h k
  | .ri (.plain .addc h) rd rs1 f k => .riAddc rd rs1 f h k
  | .ri (.plain .sub h) rd rs1 f k => .riSub rd rs1 f h k
  | .ri (.plain .subb h) rd rs1 f k => .riSubb rd rs1 f h k
  | .ri (.plain .and h) rd rs1 f k => .riAnd rd rs1 f h k
  | .ri (.plain .or h) rd rs1 f k => .riOr rd rs1 f h k
  | .ri (.plain .xor h) rd rs1 f k => .riXor rd rs1 f h k
  | .ri .sh rd rs1 f k => .riSh rd rs1 f k
  | .ri .sha rd rs1 f k => .riSha rd rs1 f k
  | .rr (.plain .add j) rd rs1 f rs2 => .rrAdd rd rs1 f rs2 j
  | .rr (.plain .addc j) rd rs1 f rs2 => .rrAddc rd rs1 f rs2 j
  | .rr (.plain .sub j) rd rs1 f rs2 => .rrSub rd rs1 f rs2 j
  | .rr (.plain .subb j) rd rs1 f rs2 => .rrSubb rd rs1 f rs2 j
  | .rr (.plain .and j) rd rs1 f rs2 => .rrAnd rd rs1 f rs2 j
  | .rr (.plain .or j) rd rs1 f rs2 => .rrOr rd rs1 f rs2 j
  | .rr (.plain .xor j) rd rs1 f rs2 => .rrXor rd rs1 f rs2 j
  | .rr .sh rd rs1 f rs2 => .rrSh rd rs1 f rs2
  | .rr .sha rd rs1 f rs2 => .rrSha rd rs1 f rs2
  | .rrr (.plain .add h) (.base .add) rd rs1 f rs2 rs3 => .rrrAddAdd rd rs1 f h rs2 rs3
  | .rrr (.plain .add h) (.base .addc) rd rs1 f rs2 rs3 => .rrrAddAddc rd rs1 f h rs2 rs3
  | .rrr (.plain .add h) (.base .sub) rd rs1 f rs2 rs3 => .rrrAddSub rd rs1 f h rs2 rs3
  | .rrr (.plain .add h) (.base .subb) rd rs1 f rs2 rs3 => .rrrAddSubb rd rs1 f h rs2 rs3
  | .rrr (.plain .add h) (.base .and) rd rs1 f rs2 rs3 => .rrrAddAnd rd rs1 f h rs2 rs3
  | .rrr (.plain .add h) (.base .or) rd rs1 f rs2 rs3 => .rrrAddOr rd rs1 f h rs2 rs3
  | .rrr (.plain .add h) (.base .xor) rd rs1 f rs2 rs3 => .rrrAddXor rd rs1 f h rs2 rs3
  | .rrr (.plain .add h) .sha rd rs1 f rs2 rs3 => .rrrAddSha rd rs1 f h rs2 rs3
  | .rrr (.plain .addc h) (.base .add) rd rs1 f rs2 rs3 => .rrrAddcAdd rd rs1 f h rs2 rs3
  | .rrr (.plain .addc h) (.base .addc) rd rs1 f rs2 rs3 => .rrrAddcAddc rd rs1 f h rs2 rs3
  | .rrr (.plain .addc h) (.base .sub) rd rs1 f rs2 rs3 => .rrrAddcSub rd rs1 f h rs2 rs3
  | .rrr (.plain .addc h) (.base .subb) rd rs1 f rs2 rs3 => .rrrAddcSubb rd rs1 f h rs2 rs3
  | .rrr (.plain .addc h) (.base .and) rd rs1 f rs2 rs3 => .rrrAddcAnd rd rs1 f h rs2 rs3
  | .rrr (.plain .addc h) (.base .or) rd rs1 f rs2 rs3 => .rrrAddcOr rd rs1 f h rs2 rs3
  | .rrr (.plain .addc h) (.base .xor) rd rs1 f rs2 rs3 => .rrrAddcXor rd rs1 f h rs2 rs3
  | .rrr (.plain .addc h) .sha rd rs1 f rs2 rs3 => .rrrAddcSha rd rs1 f h rs2 rs3
  | .rrr (.plain .sub h) (.base .add) rd rs1 f rs2 rs3 => .rrrSubAdd rd rs1 f h rs2 rs3
  | .rrr (.plain .sub h) (.base .addc) rd rs1 f rs2 rs3 => .rrrSubAddc rd rs1 f h rs2 rs3
  | .rrr (.plain .sub h) (.base .sub) rd rs1 f rs2 rs3 => .rrrSubSub rd rs1 f h rs2 rs3
  | .rrr (.plain .sub h) (.base .subb) rd rs1 f rs2 rs3 => .rrrSubSubb rd rs1 f h rs2 rs3
  | .rrr (.plain .sub h) (.base .and) rd rs1 f rs2 rs3 => .rrrSubAnd rd rs1 f h rs2 rs3
  | .rrr (.plain .sub h) (.base .or) rd rs1 f rs2 rs3 => .rrrSubOr rd rs1 f h rs2 rs3
  | .rrr (.plain .sub h) (.base .xor) rd rs1 f rs2 rs3 => .rrrSubXor rd rs1 f h rs2 rs3
  | .rrr (.plain .sub h) .sha rd rs1 f rs2 rs3 => .rrrSubSha rd rs1 f h rs2 rs3
  | .rrr (.plain .subb h) (.base .add) rd rs1 f rs2 rs3 => .rrrSubbAdd rd rs1 f h rs2 rs3
  | .rrr (.plain .subb h) (.base .addc) rd rs1 f rs2 rs3 => .rrrSubbAddc rd rs1 f h rs2 rs3
  | .rrr (.plain .subb h) (.base .sub) rd rs1 f rs2 rs3 => .rrrSubbSub rd rs1 f h rs2 rs3
  | .rrr (.plain .subb h) (.base .subb) rd rs1 f rs2 rs3 => .rrrSubbSubb rd rs1 f h rs2 rs3
  | .rrr (.plain .subb h) (.base .and) rd rs1 f rs2 rs3 => .rrrSubbAnd rd rs1 f h rs2 rs3
  | .rrr (.plain .subb h) (.base .or) rd rs1 f rs2 rs3 => .rrrSubbOr rd rs1 f h rs2 rs3
  | .rrr (.plain .subb h) (.base .xor) rd rs1 f rs2 rs3 => .rrrSubbXor rd rs1 f h rs2 rs3
  | .rrr (.plain .subb h) .sha rd rs1 f rs2 rs3 => .rrrSubbSha rd rs1 f h rs2 rs3
  | .rrr (.plain .and h) (.base .add) rd rs1 f rs2 rs3 => .rrrAndAdd rd rs1 f h rs2 rs3
  | .rrr (.plain .and h) (.base .addc) rd rs1 f rs2 rs3 => .rrrAndAddc rd rs1 f h rs2 rs3
  | .rrr (.plain .and h) (.base .sub) rd rs1 f rs2 rs3 => .rrrAndSub rd rs1 f h rs2 rs3
  | .rrr (.plain .and h) (.base .subb) rd rs1 f rs2 rs3 => .rrrAndSubb rd rs1 f h rs2 rs3
  | .rrr (.plain .and h) (.base .and) rd rs1 f rs2 rs3 => .rrrAndAnd rd rs1 f h rs2 rs3
  | .rrr (.plain .and h) (.base .or) rd rs1 f rs2 rs3 => .rrrAndOr rd rs1 f h rs2 rs3
  | .rrr (.plain .and h) (.base .xor) rd rs1 f rs2 rs3 => .rrrAndXor rd rs1 f h rs2 rs3
  | .rrr (.plain .and h) .sha rd rs1 f rs2 rs3 => .rrrAndSha rd rs1 f h rs2 rs3
  | .rrr (.plain .or h) (.base .add) rd rs1 f rs2 rs3 => .rrrOrAdd rd rs1 f h rs2 rs3
  | .rrr (.plain .or h) (.base .addc) rd rs1 f rs2 rs3 => .rrrOrAddc rd rs1 f h rs2 rs3
  | .rrr (.plain .or h) (.base .sub) rd rs1 f rs2 rs3 => .rrrOrSub rd rs1 f h rs2 rs3
  | .rrr (.plain .or h) (.base .subb) rd rs1 f rs2 rs3 => .rrrOrSubb rd rs1 f h rs2 rs3
  | .rrr (.plain .or h) (.base .and) rd rs1 f rs2 rs3 => .rrrOrAnd rd rs1 f h rs2 rs3
  | .rrr (.plain .or h) (.base .or) rd rs1 f rs2 rs3 => .rrrOrOr rd rs1 f h rs2 rs3
  | .rrr (.plain .or h) (.base .xor) rd rs1 f rs2 rs3 => .rrrOrXor rd rs1 f h rs2 rs3
  | .rrr (.plain .or h) .sha rd rs1 f rs2 rs3 => .rrrOrSha rd rs1 f h rs2 rs3
  | .rrr (.plain .xor h) (.base .add) rd rs1 f rs2 rs3 => .rrrXorAdd rd rs1 f h rs2 rs3
  | .rrr (.plain .xor h) (.base .addc) rd rs1 f rs2 rs3 => .rrrXorAddc rd rs1 f h rs2 rs3
  | .rrr (.plain .xor h) (.base .sub) rd rs1 f rs2 rs3 => .rrrXorSub rd rs1 f h rs2 rs3
  | .rrr (.plain .xor h) (.base .subb) rd rs1 f rs2 rs3 => .rrrXorSubb rd rs1 f h rs2 rs3
  | .rrr (.plain .xor h) (.base .and) rd rs1 f rs2 rs3 => .rrrXorAnd rd rs1 f h rs2 rs3
  | .rrr (.plain .xor h) (.base .or) rd rs1 f rs2 rs3 => .rrrXorOr rd rs1 f h rs2 rs3
  | .rrr (.plain .xor h) (.base .xor) rd rs1 f rs2 rs3 => .rrrXorXor rd rs1 f h rs2 rs3
  | .rrr (.plain .xor h) .sha rd rs1 f rs2 rs3 => .rrrXorSha rd rs1 f h rs2 rs3
  | .rrr .sh (.base .add) rd rs1 f rs2 rs3 => .rrrShAdd rd rs1 f rs2 rs3
  | .rrr .sh (.base .addc) rd rs1 f rs2 rs3 => .rrrShAddc rd rs1 f rs2 rs3
  | .rrr .sh (.base .sub) rd rs1 f rs2 rs3 => .rrrShSub rd rs1 f rs2 rs3
  | .rrr .sh (.base .subb) rd rs1 f rs2 rs3 => .rrrShSubb rd rs1 f rs2 rs3
  | .rrr .sh (.base .and) rd rs1 f rs2 rs3 => .rrrShAnd rd rs1 f rs2 rs3
  | .rrr .sh (.base .or) rd rs1 f rs2 rs3 => .rrrShOr rd rs1 f rs2 rs3
  | .rrr .sh (.base .xor) rd rs1 f rs2 rs3 => .rrrShXor rd rs1 f rs2 rs3
  | .rrr .sh .sha rd rs1 f rs2 rs3 => .rrrShSha rd rs1 f rs2 rs3
  | .rrr .sha (.base .add) rd rs1 f rs2 rs3 => .rrrShaAdd rd rs1 f rs2 rs3
  | .rrr .sha (.base .addc) rd rs1 f rs2 rs3 => .rrrShaAddc rd rs1 f rs2 rs3
  | .rrr .sha (.base .sub) rd rs1 f rs2 rs3 => .rrrShaSub rd rs1 f rs2 rs3
  | .rrr .sha (.base .subb) rd rs1 f rs2 rs3 => .rrrShaSubb rd rs1 f rs2 rs3
  | .rrr .sha (.base .and) rd rs1 f rs2 rs3 => .rrrShaAnd rd rs1 f rs2 rs3
  | .rrr .sha (.base .or) rd rs1 f rs2 rs3 => .rrrShaOr rd rs1 f rs2 rs3
  | .rrr .sha (.base .xor) rd rs1 f rs2 rs3 => .rrrShaXor rd rs1 f rs2 rs3
  | .rrr .sha .sha rd rs1 f rs2 rs3 => .rrrShaSha rd rs1 f rs2 rs3
  | .rm false rd rs1 m k => .rmLd rd rs1 m k
  | .rm true rd rs1 m k => .rmSt rd rs1 m k
  | .rrm (.plain (.ld e) .add j) rd rs1 m rs2 => .rrmLdAdd rd rs1 m rs2 j e
  | .rrm (.plain .ldh .add j) rd rs1 m rs2 => .rrmLdhAdd rd rs1 m rs2 j
  | .rrm (.plain .ldhu .add j) rd rs1 m rs2 => .rrmLdhuAdd rd rs1 m rs2 j
  | .rrm (.plain .ldb .add j) rd rs1 m rs2 => .rrmLdbAdd rd rs1 m rs2 j
  | .rrm (.plain .ldbu .add j) rd rs1 m rs2 => .rrmLdbuAdd rd rs1 m rs2 j
  | .rrm (.plain (.st e) .add j) rd rs1 m rs2 => .rrmStAdd rd rs1 m rs2 j e
  | .rrm (.plain (.sth e) .add j) rd rs1 m rs2 => .rrmSthAdd rd rs1 m rs2 j e
  | .rrm (.plain (.stb e) .add j) rd rs1 m rs2 => .rrmStbAdd rd rs1 m rs2 j e
  | .rrm (.plain (.ld e) .addc j) rd rs1 m rs2 => .rrmLdAddc rd rs1 m rs2 j e
  | .rrm (.plain .ldh .addc j) rd rs1 m rs2 => .rrmLdhAddc rd rs1 m rs2 j
  | .rrm (.plain .ldhu .addc j) rd rs1 m rs2 => .rrmLdhuAddc rd rs1 m rs2 j
  | .rrm (.plain .ldb .addc j) rd rs1 m rs2 => .rrmLdbAddc rd rs1 m rs2 j
  | .rrm (.plain .ldbu .addc j) rd rs1 m rs2 => .rrmLdbuAddc rd rs1 m rs2 j
  | .rrm (.plain (.st e) .addc j) rd rs1 m rs2 => .rrmStAddc rd rs1 m rs2 j e
  | .rrm (.plain (.sth e) .addc j) rd rs1 m rs2 => .rrmSthAddc rd rs1 m rs2 j e
  | .rrm (.plain (.stb e) .addc j) rd rs1 m rs2 => .rrmStbAddc rd rs1 m rs2 j e
  | .rrm (.plain (.ld e) .sub j) rd rs1 m rs2 => .rrmLdSub rd rs1 m rs2 j e
  | .rrm (.plain .ldh .sub j) rd rs1 m rs2 => .rrmLdhSub rd rs1 m rs2 j
  | .rrm (.plain .ldhu .sub j) rd rs1 m rs2 => .rrmLdhuSub rd rs1 m rs2 j
  | .rrm (.plain .ldb .sub j) rd rs1 m rs2 => .rrmLdbSub rd rs1 m rs2 j
  | .rrm (.plain .ldbu .sub j) rd rs1 m rs2 => .rrmLdbuSub rd rs1 m rs2 j
  | .rrm (.plain (.st e) .sub j) rd rs1 m rs2 => .rrmStSub rd rs1 m rs2 j e
  | .rrm (.plain (.sth e) .sub j) rd rs1 m rs2 => .rrmSthSub rd rs1 m rs2 j e
  | .rrm (.plain (.stb e) .sub j) rd rs1 m rs2 => .rrmStbSub rd rs1 m rs2 j e
  | .rrm (.plain (.ld e) .subb j) rd rs1 m rs2 => .rrmLdSubb rd rs1 m rs2 j e
  | .rrm (.plain .ldh .subb j) rd rs1 m rs2 => .rrmLdhSubb rd rs1 m rs2 j
  | .rrm (.plain .ldhu .subb j) rd rs1 m rs2 => .rrmLdhuSubb rd rs1 m rs2 j
  | .rrm (.plain .ldb .subb j) rd rs1 m rs2 => .rrmLdbSubb rd rs1 m rs2 j
  | .rrm (.plain .ldbu .subb j) rd rs1 m rs2 => .rrmLdbuSubb rd rs1 m rs2 j
  | .rrm (.plain (.st e) .subb j) rd rs1 m rs2 => .rrmStSubb rd rs1 m rs2 j e
  | .rrm (.plain (.sth e) .subb j) rd rs1 m rs2 => .rrmSthSubb rd rs1 m rs2 j e
  | .rrm (.plain (.stb e) .subb j) rd rs1 m rs2 => .rrmStbSubb rd rs1 m rs2 j e
  | .rrm (.plain (.ld e) .and j) rd rs1 m rs2 => .rrmLdAnd rd rs1 m rs2 j e
  | .rrm (.plain .ldh .and j) rd rs1 m rs2 => .rrmLdhAnd rd rs1 m rs2 j
  | .rrm (.plain .ldhu .and j) rd rs1 m rs2 => .rrmLdhuAnd rd rs1 m rs2 j
  | .rrm (.plain .ldb .and j) rd rs1 m rs2 => .rrmLdbAnd rd rs1 m rs2 j
  | .rrm (.plain .ldbu .and j) rd rs1 m rs2 => .rrmLdbuAnd rd rs1 m rs2 j
  | .rrm (.plain (.st e) .and j) rd rs1 m rs2 => .rrmStAnd rd rs1 m rs2 j e
  | .rrm (.plain (.sth e) .and j) rd rs1 m rs2 => .rrmSthAnd rd rs1 m rs2 j e
  | .rrm (.plain (.stb e) .and j) rd rs1 m rs2 => .rrmStbAnd rd rs1 m rs2 j e
  | .rrm (.plain (.ld e) .or j) rd rs1 m rs2 => .rrmLdOr rd rs1 m rs2 j e
  | .rrm (.plain .ldh .or j) rd rs1 m rs2 => .rrmLdhOr rd rs1 m rs2 j
  | .rrm (.plain .ldhu .or j) rd rs1 m rs2 => .rrmLdhuOr rd rs1 m rs2 j
  | .rrm (.plain .ldb .or j) rd rs1 m rs2 => .rrmLdbOr rd rs1 m rs2 j
  | .rrm (.plain .ldbu .or j) rd rs1 m rs2 => .rrmLdbuOr rd rs1 m rs2 j
  | .rrm (.plain (.st e) .or j) rd rs1 m rs2 => .rrmStOr rd rs1 m rs2 j e
  | .rrm (.plain (.sth e) .or j) rd rs1 m rs2 => .rrmSthOr rd rs1 m rs2 j e
  | .rrm (.plain (.stb e) .or j) rd rs1 m rs2 => .rrmStbOr rd rs1 m rs2 j e
  | .rrm (.plain (.ld e) .xor j) rd rs1 m rs2 => .rrmLdXor rd rs1 m rs2 j e
  | .rrm (.plain .ldh .xor j) rd rs1 m rs2 => .rrmLdhXor rd rs1 m rs2 j
  | .rrm (.plain .ldhu .xor j) rd rs1 m rs2 => .rrmLdhuXor rd rs1 m rs2 j
  | .rrm (.plain .ldb .xor j) rd rs1 m rs2 => .rrmLdbXor rd rs1 m rs2 j
  | .rrm (.plain .ldbu .xor j) rd rs1 m rs2 => .rrmLdbuXor rd rs1 m rs2 j
  | .rrm (.plain (.st e) .xor j) rd rs1 m rs2 => .rrmStXor rd rs1 m rs2 j e
  | .rrm (.plain (.sth e) .xor j) rd rs1 m rs2 => .rrmSthXor rd rs1 m rs2 j e
  | .rrm (.plain (.stb e) .xor j) rd rs1 m rs2 => .rrmStbXor rd rs1 m rs2 j e
  | .rrm (.shifted false false yle) rd rs1 m rs2 => .rrmLdSh rd rs1 m rs2 yle
  | .rrm (.shifted false true yle) rd rs1 m rs2 => .rrmLdSha rd rs1 m rs2 yle
  | .rrm (.shifted true false yle) rd rs1 m rs2 => .rrmStSh rd rs1 m rs2 yle
  | .rrm (.shifted true true yle) rd rs1 m rs2 => .rrmStSha rd rs1 m rs2 yle
  | .br false .t k => .brT k
  | .br false .f k => .brF k
  | .br false .hi k => .brHi k
  | .br false .ls k => .brLs k
  | .br false .cc k => .brCc k
  | .br false .cs k => .brCs k
  | .br false .ne k => .brNe k
  | .br false .eq k => .brEq k
  | .br false .vc k => .brVc k
  | .br false .vs k => .brVs k
  | .br false .pl k => .brPl k
  | .br false .mi k => .brMi k
  | .br false .ge k => .brGe k
  | .br false .lt k => .brLt k
  | .br false .gt k => .brGt k
  | .br false .le k => .brLe k
  | .br true .t k => .brrT k
  | .br true .f k => .brrF k
  | .br true .hi k => .brrHi k
  | .br true .ls k => .brrLs k
  | .br true .cc k => .brrCc k
  | .br true .cs k => .brrCs k
  | .br true .ne k => .brrNe k
  | .br true .eq k => .brrEq k
  | .br true .vc k => .brrVc k
  | .br true .vs k => .brrVs k
  | .br true .pl k => .brrPl k
  | .br true .mi k => .brrMi k
  | .br true .ge k => .brrGe k
  | .br true .lt k => .brrLt k
  | .br true .gt k => .brrGt k
  | .br true .le k => .brrLe k
  | .punt => .punt
  | .sls false rd a => .slsLd rd a
  | .sls true rd a => .slsSt rd a
  | .sli rd k => .sli rd k
  | .spls .ldh rd rs1 m k => .splsLdh rd rs1 m k
  | .spls .ldhu rd rs1 m k => .splsLdhu rd rs1 m k
  | .spls .ldb rd rs1 m k => .splsLdb rd rs1 m k
  | .spls .ldbu rd rs1 m k => .splsLdbu rd rs1 m k
  | .spls (.sth e) rd rs1 m k => .splsSth rd rs1 m e k
  | .spls (.stb e) rd rs1 m k => .splsStb rd rs1 m e k
  | .sbr .t rs1 rs3 => .sbrT rs1 rs3
  | .sbr .f rs1 rs3 => .sbrF rs1 rs3
  | .sbr .hi rs1 rs3 => .sbrHi rs1 rs3
  | .sbr .ls rs1 rs3 => .sbrLs rs1 rs3
  | .sbr .cc rs1 rs3 => .sbrCc rs1 rs3
  | .sbr .cs rs1 rs3 => .sbrCs rs1 rs3
  | .sbr .ne rs1 rs3 => .sbrNe rs1 rs3
  | .sbr .eq rs1 rs3 => .sbrEq rs1 rs3
  | .sbr .vc rs1 rs3 => .sbrVc rs1 rs3
  | .sbr .vs rs1 rs3 => .sbrVs rs1 rs3
  | .sbr .pl rs1 rs3 => .sbrPl rs1 rs3
  | .sbr .mi rs1 rs3 => .sbrMi rs1 rs3
  | .sbr .ge rs1 rs3 => .sbrGe rs1 rs3
  | .sbr .lt rs1 rs3 => .sbrLt rs1 rs3
  | .sbr .gt rs1 rs3 => .sbrGt rs1 rs3
  | .sbr .le rs1 rs3 => .sbrLe rs1 rs3

/-- The instruction of a word, or why it is none; `hasSbr` is the parameter `HAS_SBR`. -/
def decode (hasSbr : Bool) (w : Word) : Except DecodeError Instr :=
  match decodeForm hasSbr w with
  | .ok x => .ok x.instr
  | .error e => .error e

/-- The word of an instruction. -/
def encode (i : Instr) : Word := encodeForm i.form

/-! ## Bytes and values (20_memory.md R64) -/

/-- The lowest `n` bytes of `v`, the least significant first. -/
def leBytes : Nat → Word → List Byte
  | 0, _ => []
  | n + 1, v => v.setWidth 8 :: leBytes n (v >>> (8 : Nat))

/-- The number whose bytes, the least significant first, are the list. -/
def leValue : List Byte → Word
  | [] => 0#32
  | b :: bs => b.setWidth 32 ||| (leValue bs <<< (8 : Nat))

/-- The lowest `n` bytes of `v` in the order of rising addresses (R64). -/
def bytesOf (en : Endian) (n : Nat) (v : Word) : List Byte :=
  match en with
  | .little => leBytes n v
  | .big => (leBytes n v).reverse

/-- The value of bytes given in the order of rising addresses (R64), zero-extended to 32 bits. -/
def valueOf (en : Endian) (bs : List Byte) : Word :=
  match en with
  | .little => leValue bs
  | .big => leValue bs.reverse

/-- The instruction of four bytes in memory order: every instruction is one fullword (R100). -/
def decodeBytes (en : Endian) (hasSbr : Bool) (bs : List Byte) : Except DecodeError Instr :=
  decode hasSbr (valueOf en bs)

/-- The host's question: the instruction the decoder reads from an instruction of bits `w`, as
spec/opcode_table.json numbers them (bit 0 the least significant of the one 32-bit word), laid out in
memory in the spec's default byte order and with `HAS_SBR` at its default. -/
def decodeTableWord (nbits w : Nat) : Option Instr :=
  (decodeBytes .big true (bytesOf .big 4 (BitVec.ofNat 32 (w % 2 ^ nbits)))).toOption

end Sys2Proof
end

