-- ==== Sys2Proof/Machine/State.lean ====
section
/-! DEFINITION. The state of The Machine (10_state.md R40, R44), the reasons a step can stop
(60_exceptions.md R392) and the state after reset. -/

namespace Sys2Proof.Machine

/-- Memory in canonical form (`Memory.wf` in Machine/Memory.lean): byte addresses strictly rising, below
2^32, no byte equal to what an unlisted address reads as (R39, R60). -/
abbrev Memory := List Host.Cell

/-- A numbered register with storage of its own: R0, R1, R3 .. R30 in this order (R22, R40). Registers 2
(pc) and 31 (isr) are held elsewhere. `gpr?` of Machine/Registers.lean maps numbers to these. -/
abbrev Gpr := Fin 30

/-- The four condition bits (R34), kept apart from every register; a register of which they are bits is
computed from them (R35). -/
structure Flags where
  /-- Zero. -/
  z : Bool
  /-- Negative. -/
  n : Bool
  /-- oVerflow. -/
  v : Bool
  /-- Carry. -/
  c : Bool
  deriving DecidableEq, Repr, Inhabited

/-- The late-write slot's contents: a register and the value that lands in it (R36). -/
structure Late where
  reg : Gpr
  val : Word
  deriving DecidableEq, Repr, Inhabited

/-- The state: the tuple of R40, register 31 of the table of R44, the parameters the machine was given
(00_scope.md R5; no step changes them) and the model's own draw counter. -/
structure State where
  /-- R0, R1, R3 .. R30 (R20, R22). Read by `readReg`, written by `setReg` of Machine/Registers.lean. -/
  regs : Vector Word 30
  /-- Register 31, isr (R21, R24): listed by R44; every access is refused, so no instruction reaches it. -/
  isr : Word
  /-- Z, N, V, C (R34). -/
  flags : Flags
  /-- The address of the instruction executing in this step (R30). -/
  cia : Word
  /-- The address of the instruction that executes in the next step (R30). -/
  nia : Word
  /-- The instruction executing in this step is in the shadow of a jump (R30). -/
  js : Bool
  /-- The late-write slot (R36). -/
  lp : Option Late
  /-- The current context (R38). -/
  ctx : Bool
  /-- What the alternate context owns, opaque: only `CTX_SWITCH` reads or writes it (R38). -/
  alt : List Word
  /-- M (R39). -/
  mem : Memory
  /-- W, the byte addresses stored to since the run began (R40, R43), strictly rising. -/
  stored : List Nat
  /-- The parameters (Sys2Proof/Config.lean). -/
  params : Params
  /-- The MODEL's own counter: how many free values of `SHL0_C` and of accesses with a side effect were drawn
  (log entries 6 and 10). -/
  draws : Nat
  deriving DecidableEq, Repr, Inhabited

/-- Faults: there are none. The source defines no fault (60_exceptions.md R390, R393, R406) and
93_implementation_defined.md treats no item as one. Nothing raises one, which is safe. -/
inductive Fault where
  deriving DecidableEq, Repr

/-- The fourteen reasons for `raise` (60_exceptions.md R392): the source forbids the situation or is
silent, and the step has no next state. Every one of them is safe: the chip may go on where the model stops. -/
inductive Refusal where
  /-- Raised by the fetch when the four bytes at the address do not all exist (20_memory.md R74). Safe. -/
  | fetchInvalid (addr : Word)
  /-- Raised by a load or a store whose bytes do not all exist (20_memory.md R66, R67). Safe. -/
  | accessInvalid (addr : Word) (size : Nat)
  /-- Raised by the fetch of a word of which a byte was stored to (20_memory.md R75). Safe. -/
  | fetchModified (addr : Word)
  /-- Raised by decoding: the word selects no instruction (30_encoding.md R116). Safe. -/
  | reservedEncoding (w : Word)
  /-- Raised by decoding: a reserved bit is 1 (30_encoding.md R115). Safe. -/
  | reservedBits (w : Word)
  /-- Raised by RRR, RM, RRM, SLS, SLI, SPLS when Rd is 2 or 31 (10_state.md R23). Safe. -/
  | restrictedRd (fmt : Format) (rd : Reg)
  /-- Raised by every instruction that uses register 31 in a register field (10_state.md R24). Safe. -/
  | isrAccess (field : RegField)
  /-- Raised by RM, RRM, SPLS in modes post and pre with Rs1 = 2 (10_state.md R29). Safe. -/
  | restrictedBase (r : Reg)
  /-- Raised by a shift whose amount is outside -31 .. 31 (40_alu_operations.md R150). Safe. -/
  | shiftRange (n : Int)
  /-- Raised by a halfword or fullword access, other than SLS, at an address that is not a multiple of its
  size (20_memory.md R68). Safe. -/
  | misaligned (addr : Word) (size : Nat)
  /-- Raised at the landing of a late value on the register that the instruction writes (R37); under
  `FLAGS_ALIAS` also where a flag update meets a write of the flags' register (log entry 10). Safe. -/
  | writeCollision (r : Gpr)
  /-- Raised by a jump to an address that is not a multiple of 4 (R31, R32). Safe. -/
  | misalignedTarget (t : Word)
  /-- Raised by a jump or a taken branch in the shadow of one, at address `cia` (R33). Safe. -/
  | jumpInShadow (cia : Word)
  /-- Raised by PUNT in the shadow of a load or a jump (47_punt.md R331). Safe. -/
  | puntInShadow
  /-- No meaning in this model: raised by no arm of `exec`, all 210 instructions have theirs. Safe. -/
  | notModelled (mnemonic : String)
  deriving DecidableEq, Repr

/-- The state after reset. The spec fixes `nia = cia + 4`, `js`, `lp` and `W` (10_state.md R44,
70_reset_and_hazards.md R421); it leaves every other value open, and zero is the model's choice
(DESIGN CHOICE, unsafe: log entry 1; the parameters: log entries 2 to 5, 7 and 10). -/
def State.reset : State where
  regs := Vector.replicate 30 0#32
  isr := 0#32
  flags := { z := false, n := false, v := false, c := false }
  cia := 0#32
  nia := 4#32
  js := false
  lp := none
  ctx := false
  alt := []
  mem := []
  stored := []
  params := Config.params
  draws := 0

end Sys2Proof.Machine
end

