-- ==== Sys2Proof/Machine/Memory.lean ====
section
/-! DEFINITION. Memory as plain data (20_memory.md R60, R64): reading and writing bytes in the canonical
form, the set W of stored-to addresses (10_state.md R40), and which addresses exist (R62). -/

namespace Sys2Proof.Machine

/-- What a byte that nothing has written reads as: 0 (DESIGN CHOICE, unsafe: log entry 8). -/
def unlisted : Byte := 0#8

/-- The byte at an address. -/
def Memory.readByte : Memory → Nat → Byte
  | [], _ => unlisted
  | (x, b) :: m, a => if x = a then b else Memory.readByte m a

/-- The memory with one byte changed; the canonical form stays (`Memory.wf_writeByte`). -/
def Memory.writeByte : Memory → Nat → Byte → Memory
  | [], a, b => if b = unlisted then [] else [(a, b)]
  | (x, c) :: m, a, b =>
    if a < x then (if b = unlisted then (x, c) :: m else (a, b) :: (x, c) :: m)
    else if a = x then (if b = unlisted then m else (a, b) :: m)
    else (x, c) :: Memory.writeByte m a b

/-- The bytes at `a`, `a + 1`, …: `n` of them, addresses modulo 2^32 (R64). -/
def Memory.readBytes (m : Memory) (a : Word) : Nat → List Byte
  | 0 => []
  | n + 1 => Memory.readByte m a.toNat :: Memory.readBytes m (a + 1#32) n

/-- The memory with the bytes written at `a`, `a + 1`, …, addresses modulo 2^32 (R64). -/
def Memory.writeBytes (m : Memory) (a : Word) : List Byte → Memory
  | [] => m
  | b :: bs => Memory.writeBytes (Memory.writeByte m a.toNat b) (a + 1#32) bs

/-- The canonical form from address `lo` up. -/
def Memory.wfFrom : Nat → Memory → Bool
  | _, [] => true
  | lo, (a, b) :: m => decide (lo ≤ a) && decide (a < 2 ^ 32) && (b != unlisted) && Memory.wfFrom (a + 1) m

/-- The canonical form: addresses strictly rising and below 2^32, no entry equal to an unlisted byte. -/
def Memory.wf (m : Memory) : Bool := Memory.wfFrom 0 m

/-- Any list of cells as a memory in canonical form, an earlier cell before a later one. -/
def Memory.canon : List Host.Cell → Memory
  | [] => []
  | (a, b) :: m => Memory.writeByte (Memory.canon m) (a % 2 ^ 32) b

/-! ## The set W (10_state.md R40) -/

/-- A strictly rising list with one address more. -/
def addAddr : List Nat → Nat → List Nat
  | [], a => [a]
  | x :: w, a => if a < x then a :: x :: w else if a = x then x :: w else x :: addAddr w a

/-- W with the `n` byte addresses from `a` (20_memory.md R67). -/
def addStored (w : List Nat) (a : Word) : Nat → List Nat
  | 0 => w
  | n + 1 => addStored (addAddr w a.toNat) (a + 1#32) n

/-- W with the addresses of any list, modulo 2^32. -/
def addAll (w : List Nat) : List Nat → List Nat
  | [] => w
  | a :: as => addAddr (addAll w as) (a % 2 ^ 32)

/-- Strictly rising from `lo` up and below 2^32. -/
def addrsFrom : Nat → List Nat → Bool
  | _, [] => true
  | lo, a :: w => decide (lo ≤ a) && decide (a < 2 ^ 32) && addrsFrom (a + 1) w

/-- The canonical form of W. -/
def storedWf (w : List Nat) : Bool := addrsFrom 0 w

/-- One of the `n` bytes from `a` is in W. -/
def anyStored (w : List Nat) (a : Word) : Nat → Bool
  | 0 => false
  | n + 1 => w.contains a.toNat || anyStored w (a + 1#32) n

/-- W without the `n` byte addresses from `a`. -/
def dropStored (w : List Nat) (a : Word) : Nat → List Nat
  | 0 => w
  | n + 1 => dropStored (w.filter (fun x => x != a.toNat)) (a + 1#32) n

/-! ## Which addresses exist (20_memory.md R62) -/

/-- The byte at this address exists. -/
def byteExists (p : Params) (a : Nat) : Bool :=
  p.memMap.any (fun r => decide (r.base ≤ a) && decide (a < r.base + r.size))

/-- `MEM_VALID(a, n)`: the `n` bytes from `a` exist. -/
def memValid (p : Params) (a : Word) : Nat → Bool
  | 0 => true
  | n + 1 => byteExists p a.toNat && memValid p (a + 1#32) n

end Sys2Proof.Machine
end

