-- ==== Sys2Proof/Machine/Flags.lean ====
section
/-! DEFINITION. The arithmetic and logic unit (40_alu_operations.md R141 to R155), the flag update
(R160, R161) and the branch conditions (46_br.md R292). -/

namespace Sys2Proof.Machine

/-- Bit 31. -/
def sign (x : Word) : Bool := x.getLsbD 31

/-- What `adder` returns. -/
structure Sum where
  r : Word
  cout : Bool
  v : Bool
  deriving DecidableEq, Repr

/-- `adder(x, y, cin)` (R141): the exact sum, narrowed; its carry out; the signed overflow. -/
def adder (x y : Word) (cin : Bool) : Sum :=
  let s : Nat := x.toNat + y.toNat + cin.toNat
  let r : Word := BitVec.ofNat 32 s
  { r := r
    cout := decide (2 ^ 32 ≤ s)
    v := (sign x == sign y) && (sign r != sign x) }

/-- The carry of an operation, with its kind (R155): a value; the draw of a left shift by 0 (R152); or a
logic operation, which produces none. -/
inductive CarryOut where
  | known (c : Bool)
  | drawn
  | logic
  deriving DecidableEq, Repr

/-- What `alu` returns: the result, the carry with its kind, the overflow (R155). -/
structure AluOut where
  r : Word
  carry : CarryOut
  v : Bool
  deriving DecidableEq, Repr

/-- An adder's result as the result of an operation. -/
def Sum.out (s : Sum) : AluOut := { r := s.r, carry := .known s.cout, v := s.v }

/-- The result of a logic operation (R147). -/
def logicOut (r : Word) : AluOut := { r := r, carry := .logic, v := false }

/-- `shift(a, b, arith)` (R150 to R152): a left shift by 0 .. 31, a right shift by 1 .. 31, `none` outside.
The sign fill of an arithmetic right shift is PRESUMED by the spec itself (log entry 9). -/
def shift (a b : Word) (arith : Bool) : Option AluOut :=
  let n : Int := b.toInt
  if n < -31 ∨ 31 < n then none
  else if 0 ≤ n then
    let m : Nat := n.toNat
    some { r := a <<< m
           carry := if m = 0 then .drawn else .known (a.getLsbD (32 - m))
           v := false }
  else
    let m : Nat := (-n).toNat
    some { r := if arith then a.sshiftRight m else a >>> m
           carry := .known false
           v := false }

/-- `alu(op, a, b)` with the flag C as it stands before the instruction (R142 to R155); `none` is a shift
amount out of range. -/
def alu (op : AluOp) (a b : Word) (c : Bool) : Option AluOut :=
  match op with
  | .add => some (adder a b false).out
  | .addc => some (adder a b c).out
  | .sub => some (adder a (~~~b) true).out
  | .subb => some (adder a (~~~b) c).out
  | .and => some (logicOut (a &&& b))
  | .or => some (logicOut (a ||| b))
  | .xor => some (logicOut (a ^^^ b))
  | .sh => shift a b false
  | .sha => shift a b true

/-- The three formats whose F bit sets the flags (10_state.md R34). -/
inductive AluFormat where
  | ri | rr | rrr
  deriving DecidableEq, Repr

/-- C after a flag-setting and, or, xor (R161): RI clears it, RR keeps it, RRR by `RRR_LOGIC_C`. -/
def logicC (fmt : AluFormat) (p : Params) (old : Bool) : Bool :=
  match fmt with
  | .ri => false
  | .rr => old
  | .rrr =>
    match p.rrrLogicC with
    | .clear => false
    | .keep => old

/-- C after a flag-setting instruction (R160); the draw is the free value of log entry 6. -/
def carryAfter (fmt : AluFormat) (o : AluOut) (s : State) : Bool :=
  match o.carry with
  | .known b => b
  | .drawn => Config.shl0C s.draws
  | .logic => logicC fmt s.params s.flags.c

/-- `setflags` (R160): the flags that an instruction with F = 1 leaves. -/
def setflags (fmt : AluFormat) (o : AluOut) (s : State) : Flags :=
  { z := o.r == 0#32, n := sign o.r, v := o.v, c := carryAfter fmt o s }

/-- The flag write of an instruction: none with F = 0 (R160). -/
def flagWrite (fmt : AluFormat) (f : Bool) (o : AluOut) (s : State) : Option Flags :=
  if f then some (setflags fmt o s) else none

/-- The instruction draws a value of `SHL0_C`: it sets the flags from a left shift by 0 (R152). -/
def drawsCarry (f : Bool) (o : AluOut) : Bool := f && (o.carry == .drawn)

/-- `cond` (46_br.md R292), the source's sixteen functions as the source writes them. -/
def cond (k : Cond) (g : Flags) : Bool :=
  match k with
  | .t => true
  | .f => false
  | .hi => g.c && !g.z
  | .ls => !g.c || g.z
  | .cc => !g.c
  | .cs => g.c
  | .ne => !g.z
  | .eq => g.z
  | .vc => !g.v
  | .vs => g.v
  | .pl => !g.n
  | .mi => g.n
  | .ge => (g.n && g.v) || (!g.n && !g.v)
  | .lt => (g.n && !g.v) || (!g.n && g.v)
  | .gt => (g.n && g.v && !g.z) || (!g.n && !g.v && !g.z)
  | .le => g.z || (g.n && !g.v) || (!g.n && g.v)

end Sys2Proof.Machine
end

