-- ==== Sys2Proof/Machine/Registers.lean ====
section
/-! DEFINITION. The numbered registers behind one read and one write (10_state.md R20 to R25, R35): plain
storage at the spec's default, and what the open parameters `SPECIAL_REGS` and `FLAGS_ALIAS` (92_eei_decisions.md
D4, D6) may say of a register. The spec gives those two no shape; this one is the model's (log entry 10). -/

namespace Sys2Proof.Config

/-- The registers and the flags after the n-th access with a side effect. A free value: log entry 10. -/
opaque specialEffect : Nat → Vector Word 30 × Machine.Flags

end Sys2Proof.Config

namespace Sys2Proof.Machine

/-! ## Register numbers -/

/-- The register with storage of its own of a number; `none` for 2 (pc) and 31 (isr). -/
def gpr? (r : Reg) : Option Gpr :=
  if r.toNat < 2 then some (Fin.ofNat 30 r.toNat)
  else if r.toNat = 2 ∨ r.toNat = 31 then none
  else some (Fin.ofNat 30 (r.toNat - 1))

/-- The number of a register with storage of its own. -/
def gprNumber (g : Gpr) : Reg := if g.val < 2 then BitVec.ofNat 5 g.val else BitVec.ofNat 5 (g.val + 1)

/-! ## The two open parameters -/

/-- What `SPECIAL_REGS` says of a register; `none`, the default, is plain storage (R22). -/
def behaviour (p : Params) (g : Gpr) : Option RegBehaviour := p.specialRegs.lookup (gprNumber g)

/-- `FLAGS_ALIAS`, where it names this register and the register is no special one; `none` is the default. -/
def flagsIn (p : Params) (g : Gpr) : Option FlagsAlias :=
  p.flagsAlias.filter (fun a => a.reg == gprNumber g && a.distinct && behaviour p g == none)

/-- A word with one bit set to a value. -/
def withBit (v : Word) (n : Fin 32) (b : Bool) : Word :=
  if b then v ||| (1#32 <<< n.val) else v &&& ~~~(1#32 <<< n.val)

/-- The flags that a value of their register holds. -/
def aliasFlags (a : FlagsAlias) (v : Word) : Flags :=
  { z := v.getLsbD a.z, n := v.getLsbD a.n, v := v.getLsbD a.v, c := v.getLsbD a.c }

/-- A value with the flags at their places. -/
def aliasInsert (a : FlagsAlias) (f : Flags) (v : Word) : Word :=
  withBit (withBit (withBit (withBit v a.z f.z) a.n f.n) a.v f.v) a.c f.c

/-! ## Reading and writing -/

/-- The value of a register. The flags are stored once: a register of which they are bits shows them. -/
def readReg (s : State) (g : Gpr) : Word :=
  match behaviour s.params g with
  | some (.hardwired v) => v
  | some .sideEffect => Config.specialRead s.draws (gprNumber g)
  | none =>
    match flagsIn s.params g with
    | some a => aliasInsert a s.flags (s.regs.get g)
    | none => s.regs.get g

/-- A write to a register: discarded by a hardwired one; to the register of the flags, a write of the flags
(whose places in the storage are of no account, and keep what they hold). -/
def setReg (g : Gpr) (v : Word) (s : State) : State :=
  match behaviour s.params g with
  | some (.hardwired _) => s
  | some .sideEffect => { s with regs := s.regs.set g.val v g.isLt }
  | none =>
    match flagsIn s.params g with
    | some a =>
      { s with
        regs := s.regs.set g.val (aliasInsert a (aliasFlags a (s.regs.get g)) v) g.isLt
        flags := aliasFlags a v }
    | none => { s with regs := s.regs.set g.val v g.isLt }

/-! ## Accesses with a side effect -/

/-- An access to the register of this number has a side effect. -/
def hasSideEffect (p : Params) (r : Reg) : Bool :=
  match gpr? r with
  | some g => behaviour p g == some .sideEffect
  | none => false

/-- A step that accesses these register fields accesses a register with a side effect, or a late value lands
on one. -/
def touches (s : State) (rs : List Reg) : Bool :=
  rs.any (hasSideEffect s.params) ||
    (match s.lp with
     | some l => hasSideEffect s.params (gprNumber l.reg)
     | none => false)

/-- The end of a step from `s` that accesses these register fields: `t`, but for the registers and the flags
where an access has a side effect. -/
def afterAccess (rs : List Reg) (s t : State) : State :=
  if touches s rs then
    { t with
      regs := (Config.specialEffect s.draws).1
      flags := (Config.specialEffect s.draws).2
      draws := s.draws + 1 }
  else t

end Sys2Proof.Machine
end

