-- ==== Sys2Proof/Machine/Operands.lean ====
section
/-! DEFINITION. The operand forms: register fields (10_state.md R20 to R29), the immediate operands
(30_encoding.md R112), the four addressing modes (44_rm.md R241), access sizes and extensions
(20_memory.md R70). -/

namespace Sys2Proof.Machine

/-! ## Register fields -/

/-- What an instruction reads from register 2: its own address plus `PC_READ_OFFSET` (R27). -/
def pcRead (s : State) : Word := s.cia + s.params.pcReadOffset

/-- `x[r]` as a source operand (00_scope.md R9): a late value still in the slot is not seen (R36). -/
def source (field : RegField) (r : Reg) (s : State) : Except Refusal Word :=
  match gpr? r with
  | some g => .ok (readReg s g)
  | none => if r = 2#5 then .ok (pcRead s) else .error (.isrAccess field)

/-- Where an RI or RR result goes (R23, R24, R28): a plain register, or the pc, a jump. -/
inductive Dest where
  | reg (g : Gpr)
  | pc
  deriving DecidableEq, Repr

def dest (rd : Reg) : Except Refusal Dest :=
  match gpr? rd with
  | some g => .ok (.reg g)
  | none => if rd = 2#5 then .ok .pc else .error (.isrAccess .rd)

/-- Rd of a format that forbids registers 2 and 31 (R23). -/
def plainRd (fmt : Format) (rd : Reg) : Except Refusal Gpr :=
  match gpr? rd with
  | some g => .ok g
  | none => .error (.restrictedRd fmt rd)

/-- The base register that modes post and pre update (R29); none in modes base and off. It stands after
the read of Rs1, which refuses register 31. -/
def baseReg (m : Mode) (rs1 : Reg) : Except Refusal (Option Gpr) :=
  match m with
  | .base => .ok none
  | .off => .ok none
  | .post | .pre =>
    match gpr? rs1 with
    | some g => .ok (some g)
    | none => .error (.restrictedBase rs1)

/-! ## Immediate operands (30_encoding.md R112) -/

/-- RI, all but and and the shifts: the constant in the low (H = 0) or high half, zeros in the other. -/
def constHalf (h : Bool) (k : BitVec 16) : Word := if h then k ++ 0x0000#16 else 0x0000#16 ++ k

/-- RI and: the other half is all ones. -/
def constAnd (h : Bool) (k : BitVec 16) : Word := if h then k ++ 0xFFFF#16 else 0xFFFF#16 ++ k

/-- The absolute branch target (46_br.md R291). -/
def absTarget (k : BitVec 23) : Word := (k ++ 0#2).setWidth 32

/-- The relative branch target (46_br.md R291): from what register 2 reads. -/
def relTarget (s : State) (k : BitVec 23) : Word := pcRead s + (k ++ 0#2).signExtend 32

/-- The SLS address (48_special_memory.md R340): zero-extended, its two low bits ignored. -/
def slsAddr (a : BitVec 21) : Word := a.setWidth 32 &&& 0xFFFFFFFC#32

/-! ## Addressing modes -/

/-- `addr_mode` (44_rm.md R241): the effective address, and the base update where the mode has one. -/
def addrMode (m : Mode) (base : Option Gpr) (a t : Word) : Word × Option (Gpr × Word) :=
  match m with
  | .base => (a, none)
  | .post => (a, base.map (fun g => (g, t)))
  | .off => (t, none)
  | .pre => (t, base.map (fun g => (g, t)))

/-! ## Access sizes (20_memory.md R70) -/

/-- The three access sizes. -/
inductive Size where
  | full | half | byte
  deriving DecidableEq, Repr

def Size.bytes : Size → Nat
  | .full => 4 | .half => 2 | .byte => 1

/-- The extension of a part-word load (45_rrm.md R262). -/
inductive Ext where
  | zero | sign
  deriving DecidableEq, Repr

/-- The register value of a loaded part-word (45_rrm.md R264): its least significant part, extended. -/
def extend (size : Size) (ext : Ext) (v : Word) : Word :=
  match size, ext with
  | .full, _ => v
  | .half, .zero => (v.setWidth 16).setWidth 32
  | .half, .sign => (v.setWidth 16).signExtend 32
  | .byte, .zero => (v.setWidth 8).setWidth 32
  | .byte, .sign => (v.setWidth 8).signExtend 32

end Sys2Proof.Machine
end

