-- ==== Sys2Proof/Machine/Ops.lean ====
section
/-! DEFINITION. The named operations of a step (10_state.md R40): memory access, the effects of a rule, the
landing of the late value, the writes and the advance, and the fetch. The Machine takes no exception: the
source has no trap, no saved pc or status, no vector and no return (60_exceptions.md R390, R396, R397), so
the shared operation for "taking an exception" is the stop with a reason (R392, R393), which is a refusal. -/

namespace Sys2Proof.Machine

/-! ## Memory access (20_memory.md R66, R67) -/

/-- The checks of an access of `n` bytes, in the order of R66. -/
def checkAccess (a : Word) (n : Nat) (s : State) : Except Refusal Unit :=
  if a.toNat % n ≠ 0 then .error (.misaligned a n)
  else if memValid s.params a n then .ok ()
  else .error (.accessInvalid a n)

/-- The `n`-byte value at `a` in the machine's byte order, zero-extended (R64). -/
def valueAt (a : Word) (n : Nat) (s : State) : Word :=
  valueOf s.params.endian (Memory.readBytes s.mem a n)

/-- `MemRead(a, n)`. -/
def memRead (a : Word) (n : Nat) (s : State) : Except Refusal Word := do
  checkAccess a n s
  return valueAt a n s

/-- Bytes to be stored, in the order of rising addresses. -/
structure Store where
  addr : Word
  bytes : List Byte
  deriving DecidableEq, Repr

/-- `MemWrite(a, n, v)` as an effect: the lowest `n` bytes of `v`. -/
def memWrite (a : Word) (n : Nat) (v : Word) (s : State) : Except Refusal Store := do
  checkAccess a n s
  return { addr := a, bytes := bytesOf s.params.endian n v }

/-! ## The effects of a rule (10_state.md R40 step 4) -/

/-- What the rule of an instruction yields: W2 (no instruction has two), FL, ST, LD, J, and whether a value
of `SHL0_C` was drawn. -/
structure Effects where
  write : Option (Gpr × Word) := none
  flags : Option Flags := none
  store : Option Store := none
  late : Option Late := none
  jump : Option Word := none
  drew : Bool := false
  deriving DecidableEq, Repr

/-- The registers and the flags after the landing of the late-write slot (step 5). -/
def landed (s : State) : State :=
  match s.lp with
  | some l => setReg l.reg l.val s
  | none => s

/-- A write at time 2 (step 6). -/
def writeOut (w : Option (Gpr × Word)) (s : State) : State :=
  match w with
  | some (g, v) => setReg g v s
  | none => s

/-- Memory after a store (step 6). -/
def memAfter (st : Option Store) (s : State) : Memory :=
  match st with
  | some x => Memory.writeBytes s.mem x.addr x.bytes
  | none => s.mem

/-- W after a store (step 6). -/
def storedAfter (st : Option Store) (s : State) : List Nat :=
  match st with
  | some x => addStored s.stored x.addr x.bytes.length
  | none => s.stored

/-- Steps 5 to 7 and 9 of R40, with the advance of R31. -/
def applyEffects (e : Effects) (s : State) : State :=
  { s with
    regs := (writeOut e.write (landed s)).regs
    flags := e.flags.getD (writeOut e.write (landed s)).flags
    mem := memAfter e.store s
    stored := storedAfter e.store s
    lp := e.late
    cia := s.nia
    nia := e.jump.getD (s.nia + 4#32)
    js := e.jump.isSome
    draws := if e.drew then s.draws + 1 else s.draws }

/-- The register on which the landing late value meets the write at time 2, if any (R37). -/
def meeting (w : Option (Gpr × Word)) (s : State) : Option Gpr :=
  match w, s.lp with
  | some (g, _), some l => if g = l.reg then some g else none
  | _, _ => none

/-- Under `FLAGS_ALIAS`, the register of the flags, where a flag update meets its write at time 2 or its
landing: two writes to one register, which R37 refuses (log entry 10). -/
def flagMeeting (e : Effects) (s : State) : Option Gpr :=
  if e.flags.isSome then
    ((e.write.map Prod.fst).filter (fun g => (flagsIn s.params g).isSome)).or
      ((s.lp.map Late.reg).filter (fun g => (flagsIn s.params g).isSome))
  else none

/-- The register of `WriteCollision` (R37). -/
def collision (e : Effects) (s : State) : Option Gpr := (meeting e.write s).or (flagMeeting e s)

/-- A multiple of 4. -/
def aligned4 (t : Word) : Bool := t.toNat % 4 == 0

/-- `pc <- t` at the advance, by any instruction: `MisalignedTarget`, then `JumpInShadow` (R31). -/
def checkJump (j : Option Word) (s : State) : Except Refusal Unit :=
  match j with
  | some t =>
    if aligned4 t then
      if s.js then .error (.jumpInShadow s.cia) else .ok ()
    else .error (.misalignedTarget t)
  | none => .ok ()

/-- The end of a step that accesses the register fields `rs`, in the order of 60_exceptions.md R394:
`WriteCollision` (step 5), then the checks of a jump (step 9), then the new state. -/
def commit (rs : List Reg) (e : Effects) (s : State) : Except Refusal State :=
  match collision e s with
  | some g => .error (.writeCollision g)
  | none => do
    checkJump e.jump s
    return afterAccess rs s (applyEffects e s)

/-- The outcome of a computation; there is no fault (60_exceptions.md R393). -/
def outcome : Except Refusal State → Host.Outcome State Fault Refusal
  | .ok s => .next s
  | .error r => .refused r

/-- The step of an instruction that accesses the register fields `rs` and whose rule yields effects, or stops. -/
def runEffects (rs : List Reg) (x : Except Refusal Effects) (s : State) : Host.Outcome State Fault Refusal :=
  outcome (do
    let e ← x
    commit rs e s)

/-! ## Pieces shared by the formats -/

/-- An `alu` operation; a shift amount out of range is refused (40_alu_operations.md R150). -/
def compute (op : AluOp) (a b : Word) (s : State) : Except Refusal AluOut :=
  match alu op a b s.flags.c with
  | some o => .ok o
  | none => .error (.shiftRange b.toInt)

/-- `x[Rd] <- r` of RI and RR with the flag update (41_ri.md R170, R171; 42_rr.md R190, R192). -/
def putResult (fmt : AluFormat) (d : Dest) (f : Bool) (o : AluOut) (s : State) : Effects :=
  match d with
  | .reg g => { write := some (g, o.r), flags := flagWrite fmt f o s, drew := drawsCarry f o }
  | .pc => { jump := some o.r, flags := flagWrite fmt f o s, drew := drawsCarry f o }

/-- A load (44_rm.md R243): the base update at time 2, the loaded value late. -/
def loadEffects (g : Gpr) (size : Size) (ext : Ext) (x : Word × Option (Gpr × Word)) (s : State) :
    Except Refusal Effects := do
  let v ← memRead x.1 size.bytes s
  return { write := x.2, late := some { reg := g, val := extend size ext v } }

/-- A store (44_rm.md R243) of the register's value before the landing. -/
def storeEffects (g : Gpr) (size : Size) (x : Word × Option (Gpr × Word)) (s : State) :
    Except Refusal Effects := do
  let st ← memWrite x.1 size.bytes (readReg s g) s
  return { write := x.2, store := some st }

/-! ## The fetch (20_memory.md R74, R75) -/

/-- The four bytes at `cia`, in memory order. -/
def fetch (s : State) : Except Refusal (List Byte) :=
  if memValid s.params s.cia 4 then
    if anyStored s.stored s.cia 4 then .error (.fetchModified s.cia)
    else .ok (Memory.readBytes s.mem s.cia 4)
  else .error (.fetchInvalid s.cia)

/-- A word that is no instruction, as a stop. -/
def decodeStop : DecodeError → Refusal
  | .reservedEncoding w => .reservedEncoding w
  | .reservedBits w => .reservedBits w

/-- The instruction at `cia`. -/
def fetchDecode (s : State) : Except Refusal Instr := do
  let bs ← fetch s
  match decodeBytes s.params.endian s.params.hasSbr bs with
  | .ok i => return i
  | .error e => .error (decodeStop e)

/-- The `n` bytes from `a` as ranges of one byte each. -/
def byteRegions (a : Word) : Nat → List Region
  | 0 => []
  | n + 1 => ⟨a.toNat, 1⟩ :: byteRegions (a + 1#32) n

/-- The state with a word placed where the next step fetches: its four bytes at `cia` in the machine's
byte order, those bytes made to exist where they do not, and not counted as stored to. -/
def placeWord (s : State) (w : Word) : State :=
  let p := s.params
  { s with
    mem := Memory.writeBytes s.mem s.cia (bytesOf p.endian 4 w)
    stored := dropStored s.stored s.cia 4
    params :=
      if memValid p s.cia 4 then p
      else { p with memMap := byteRegions s.cia 4 ++ p.memMap } }

end Sys2Proof.Machine
end

