-- ==== Sys2Proof/Machine/Br.lean ====
section
/-! DEFINITION. Conditional Branch instructions (46_br.md): one meaning per row, over the shared rule R290. -/

namespace Sys2Proof.Machine

open Host (Outcome)

/-- Rule R290: a jump with one shadow where the condition holds of the flags as the step begins. A BR target
passes the alignment check of every jump (R31), since it is a multiple of 4 where `cia` is (R291, log entry 18). -/
def branchEffects (k : Cond) (t : Word) (s : State) : Effects :=
  if cond k s.flags then { jump := some t } else {}

def branchMeaning (k : Cond) (t : Word) (s : State) : Outcome State Fault Refusal :=
  runEffects [] (.ok (branchEffects k t s)) s

/-- `br.t`: R296. -/
def execBrT (k : BitVec 23) (s : State) : Outcome State Fault Refusal :=
  branchMeaning .t (absTarget k) s

/-- `br.f`: R297. -/
def execBrF (k : BitVec 23) (s : State) : Outcome State Fault Refusal :=
  branchMeaning .f (absTarget k) s

/-- `br.hi`: R298. -/
def execBrHi (k : BitVec 23) (s : State) : Outcome State Fault Refusal :=
  branchMeaning .hi (absTarget k) s

/-- `br.ls`: R299. -/
def execBrLs (k : BitVec 23) (s : State) : Outcome State Fault Refusal :=
  branchMeaning .ls (absTarget k) s

/-- `br.cc`: R300. -/
def execBrCc (k : BitVec 23) (s : State) : Outcome State Fault Refusal :=
  branchMeaning .cc (absTarget k) s

/-- `br.cs`: R301. -/
def execBrCs (k : BitVec 23) (s : State) : Outcome State Fault Refusal :=
  branchMeaning .cs (absTarget k) s

/-- `br.ne`: R302. -/
def execBrNe (k : BitVec 23) (s : State) : Outcome State Fault Refusal :=
  branchMeaning .ne (absTarget k) s

/-- `br.eq`: R303. -/
def execBrEq (k : BitVec 23) (s : State) : Outcome State Fault Refusal :=
  branchMeaning .eq (absTarget k) s

/-- `br.vc`: R304. -/
def execBrVc (k : BitVec 23) (s : State) : Outcome State Fault Refusal :=
  branchMeaning .vc (absTarget k) s

/-- `br.vs`: R305. -/
def execBrVs (k : BitVec 23) (s : State) : Outcome State Fault Refusal :=
  branchMeaning .vs (absTarget k) s

/-- `br.pl`: R306. -/
def execBrPl (k : BitVec 23) (s : State) : Outcome State Fault Refusal :=
  branchMeaning .pl (absTarget k) s

/-- `br.mi`: R307. -/
def execBrMi (k : BitVec 23) (s : State) : Outcome State Fault Refusal :=
  branchMeaning .mi (absTarget k) s

/-- `br.ge`: R308. -/
def execBrGe (k : BitVec 23) (s : State) : Outcome State Fault Refusal :=
  branchMeaning .ge (absTarget k) s

/-- `br.lt`: R309. -/
def execBrLt (k : BitVec 23) (s : State) : Outcome State Fault Refusal :=
  branchMeaning .lt (absTarget k) s

/-- `br.gt`: R310. -/
def execBrGt (k : BitVec 23) (s : State) : Outcome State Fault Refusal :=
  branchMeaning .gt (absTarget k) s

/-- `br.le`: R311. -/
def execBrLe (k : BitVec 23) (s : State) : Outcome State Fault Refusal :=
  branchMeaning .le (absTarget k) s

/-- `brr.t`: R312. -/
def execBrrT (k : BitVec 23) (s : State) : Outcome State Fault Refusal :=
  branchMeaning .t (relTarget s k) s

/-- `brr.f`: R313. -/
def execBrrF (k : BitVec 23) (s : State) : Outcome State Fault Refusal :=
  branchMeaning .f (relTarget s k) s

/-- `brr.hi`: R314. -/
def execBrrHi (k : BitVec 23) (s : State) : Outcome State Fault Refusal :=
  branchMeaning .hi (relTarget s k) s

/-- `brr.ls`: R315. -/
def execBrrLs (k : BitVec 23) (s : State) : Outcome State Fault Refusal :=
  branchMeaning .ls (relTarget s k) s

/-- `brr.cc`: R316. -/
def execBrrCc (k : BitVec 23) (s : State) : Outcome State Fault Refusal :=
  branchMeaning .cc (relTarget s k) s

/-- `brr.cs`: R317. -/
def execBrrCs (k : BitVec 23) (s : State) : Outcome State Fault Refusal :=
  branchMeaning .cs (relTarget s k) s

/-- `brr.ne`: R318. -/
def execBrrNe (k : BitVec 23) (s : State) : Outcome State Fault Refusal :=
  branchMeaning .ne (relTarget s k) s

/-- `brr.eq`: R319. -/
def execBrrEq (k : BitVec 23) (s : State) : Outcome State Fault Refusal :=
  branchMeaning .eq (relTarget s k) s

/-- `brr.vc`: R320. -/
def execBrrVc (k : BitVec 23) (s : State) : Outcome State Fault Refusal :=
  branchMeaning .vc (relTarget s k) s

/-- `brr.vs`: R321. -/
def execBrrVs (k : BitVec 23) (s : State) : Outcome State Fault Refusal :=
  branchMeaning .vs (relTarget s k) s

/-- `brr.pl`: R322. -/
def execBrrPl (k : BitVec 23) (s : State) : Outcome State Fault Refusal :=
  branchMeaning .pl (relTarget s k) s

/-- `brr.mi`: R323. -/
def execBrrMi (k : BitVec 23) (s : State) : Outcome State Fault Refusal :=
  branchMeaning .mi (relTarget s k) s

/-- `brr.ge`: R324. -/
def execBrrGe (k : BitVec 23) (s : State) : Outcome State Fault Refusal :=
  branchMeaning .ge (relTarget s k) s

/-- `brr.lt`: R325. -/
def execBrrLt (k : BitVec 23) (s : State) : Outcome State Fault Refusal :=
  branchMeaning .lt (relTarget s k) s

/-- `brr.gt`: R326. -/
def execBrrGt (k : BitVec 23) (s : State) : Outcome State Fault Refusal :=
  branchMeaning .gt (relTarget s k) s

/-- `brr.le`: R327. -/
def execBrrLe (k : BitVec 23) (s : State) : Outcome State Fault Refusal :=
  branchMeaning .le (relTarget s k) s

end Sys2Proof.Machine
end

