-- ==== Sys2Proof/Machine/Context.lean ====
section
/-! DEFINITION. The context switch of PUNT (47_punt.md R332). What it does beyond toggling the context is
in a section the sources lack, so it is an opaque function of the state: nothing in Lean can evaluate it or
prove a value of it (log entry 13). -/

namespace Sys2Proof.Config

/-- `CTX_SWITCH`: free, no default. The argument is the state at the end of the PUNT's step. -/
opaque ctxSwitch : Machine.State → Machine.State

end Sys2Proof.Config

namespace Sys2Proof.Machine

/-- An address with its two low bits cleared. -/
def wordAddr (a : Word) : Word := a &&& 0xFFFFFFFC#32

/-- A state made by `CTX_SWITCH` from `s`, held to what R332 requires of any `CTX_SWITCH` (`ctx` toggled,
`cia` and `nia` multiples of 4, no late value) and to what the model's data needs: memory and W in
canonical form, no address lost from W, the parameters and the draw counter kept (log entry 14). -/
def afterSwitch (s raw : State) : State :=
  { raw with
    ctx := !s.ctx
    cia := wordAddr raw.cia
    nia := wordAddr raw.nia
    lp := none
    mem := Memory.canon raw.mem
    stored := addAll s.stored raw.stored
    params := s.params
    draws := s.draws }

end Sys2Proof.Machine
end

