-- ==== Sys2Proof/Machine/Punt.lean ====
section
/-! DEFINITION. Punt (47_punt.md). -/

namespace Sys2Proof.Machine

open Host (Outcome)

/-- Rule R330: refused in a shadow (R331); else `CTX_SWITCH` replaces the advance (R332, R334). -/
def puntMeaning (s : State) : Outcome State Fault Refusal :=
  if s.lp.isSome || s.js then outcome (.error .puntInShadow)
  else outcome (.ok (afterSwitch s (Config.ctxSwitch s)))

/-- `punt`: R330. -/
def execPunt (s : State) : Outcome State Fault Refusal :=
  puntMeaning s

end Sys2Proof.Machine
end

