-- ==== Sys2Proof/Machine/Ri.lean ====
section
/-! DEFINITION. Register Immediate instructions (41_ri.md): one meaning per row, over the shared rule R170. -/

namespace Sys2Proof.Machine

open Host (Outcome)

/-- Rule R170, with `b` the assembled constant: a result at time 2 (a jump where Rd is the pc, R171), flags
with F = 1. -/
def riEffects (op : AluOp) (b : Word) (rd rs1 : Reg) (f : Bool) (s : State) : Except Refusal Effects := do
  let d ← dest rd
  let a ← source .rs1 rs1 s
  let o ← compute op a b s
  return putResult .ri d f o s

def riMeaning (op : AluOp) (b : Word) (rd rs1 : Reg) (f : Bool) (s : State) :
    Outcome State Fault Refusal :=
  runEffects [rd, rs1] (riEffects op b rd rs1 f s) s

/-- `ri.add`: R173. -/
def execRiAdd (rd rs1 : Reg) (f h : Bool) (k : BitVec 16) (s : State) : Outcome State Fault Refusal :=
  riMeaning .add (constHalf h k) rd rs1 f s

/-- `ri.addc`: R174. -/
def execRiAddc (rd rs1 : Reg) (f h : Bool) (k : BitVec 16) (s : State) : Outcome State Fault Refusal :=
  riMeaning .addc (constHalf h k) rd rs1 f s

/-- `ri.sub`: R175. -/
def execRiSub (rd rs1 : Reg) (f h : Bool) (k : BitVec 16) (s : State) : Outcome State Fault Refusal :=
  riMeaning .sub (constHalf h k) rd rs1 f s

/-- `ri.subb`: R176. -/
def execRiSubb (rd rs1 : Reg) (f h : Bool) (k : BitVec 16) (s : State) : Outcome State Fault Refusal :=
  riMeaning .subb (constHalf h k) rd rs1 f s

/-- `ri.and`: R177. -/
def execRiAnd (rd rs1 : Reg) (f h : Bool) (k : BitVec 16) (s : State) : Outcome State Fault Refusal :=
  riMeaning .and (constAnd h k) rd rs1 f s

/-- `ri.or`: R178. -/
def execRiOr (rd rs1 : Reg) (f h : Bool) (k : BitVec 16) (s : State) : Outcome State Fault Refusal :=
  riMeaning .or (constHalf h k) rd rs1 f s

/-- `ri.xor`: R179. -/
def execRiXor (rd rs1 : Reg) (f h : Bool) (k : BitVec 16) (s : State) : Outcome State Fault Refusal :=
  riMeaning .xor (constHalf h k) rd rs1 f s

/-- `ri.sh`: R180. -/
def execRiSh (rd rs1 : Reg) (f : Bool) (k : BitVec 16) (s : State) : Outcome State Fault Refusal :=
  riMeaning .sh (k.signExtend 32) rd rs1 f s

/-- `ri.sha`: R181. -/
def execRiSha (rd rs1 : Reg) (f : Bool) (k : BitVec 16) (s : State) : Outcome State Fault Refusal :=
  riMeaning .sha (k.signExtend 32) rd rs1 f s

end Sys2Proof.Machine
end

