-- ==== Sys2Proof/Machine/Rm.lean ====
section
/-! DEFINITION. Register Memory instructions (44_rm.md): fullword loads and stores, four addressing modes. -/

namespace Sys2Proof.Machine

open Host (Outcome)

/-- The address part that RM and SPLS share (44_rm.md R241, R242): base `Rs1`, displacement `k`. -/
def dispAddress (rs1 : Reg) (m : Mode) (k : Word) (s : State) :
    Except Refusal (Word × Option (Gpr × Word)) := do
  let a ← source .rs1 rs1 s
  let base ← baseReg m rs1
  return addrMode m base a (a + k)

/-- Rule R244. -/
def rmLoadEffects (rd rs1 : Reg) (m : Mode) (k : BitVec 16) (s : State) : Except Refusal Effects := do
  let g ← plainRd .rm rd
  let x ← dispAddress rs1 m (k.signExtend 32) s
  loadEffects g .full .zero x s

/-- Rule R245. -/
def rmStoreEffects (rd rs1 : Reg) (m : Mode) (k : BitVec 16) (s : State) : Except Refusal Effects := do
  let g ← plainRd .rm rd
  let x ← dispAddress rs1 m (k.signExtend 32) s
  storeEffects g .full x s

def rmLoad (rd rs1 : Reg) (m : Mode) (k : BitVec 16) (s : State) : Outcome State Fault Refusal :=
  runEffects [rs1] (rmLoadEffects rd rs1 m k s) s

def rmStore (rd rs1 : Reg) (m : Mode) (k : BitVec 16) (s : State) : Outcome State Fault Refusal :=
  runEffects [rd, rs1] (rmStoreEffects rd rs1 m k s) s

/-- `rm.ld`: R244. -/
def execRmLd (rd rs1 : Reg) (m : Mode) (k : BitVec 16) (s : State) : Outcome State Fault Refusal :=
  rmLoad rd rs1 m k s

/-- `rm.st`: R245. -/
def execRmSt (rd rs1 : Reg) (m : Mode) (k : BitVec 16) (s : State) : Outcome State Fault Refusal :=
  rmStore rd rs1 m k s

end Sys2Proof.Machine
end

