-- ==== Sys2Proof/Machine/Rr.lean ====
section
/-! DEFINITION. Register Register instructions (42_rr.md): one meaning per row, over the shared rule R190. -/

namespace Sys2Proof.Machine

open Host (Outcome)

/-- Rule R190: a result at time 2 (a jump where Rd is the pc, R192), flags with F = 1. -/
def rrEffects (op : AluOp) (rd rs1 : Reg) (f : Bool) (rs2 : Reg) (s : State) : Except Refusal Effects := do
  let d ← dest rd
  let a ← source .rs1 rs1 s
  let b ← source .rs2 rs2 s
  let o ← compute op a b s
  return putResult .rr d f o s

def rrMeaning (op : AluOp) (rd rs1 : Reg) (f : Bool) (rs2 : Reg) (s : State) :
    Outcome State Fault Refusal :=
  runEffects [rd, rs1, rs2] (rrEffects op rd rs1 f rs2 s) s

/-- `rr.add`: R193. -/
def execRrAdd (rd rs1 : Reg) (f : Bool) (rs2 : Reg) (_j : BitVec 5) (s : State) : Outcome State Fault Refusal :=
  rrMeaning .add rd rs1 f rs2 s

/-- `rr.addc`: R194. -/
def execRrAddc (rd rs1 : Reg) (f : Bool) (rs2 : Reg) (_j : BitVec 5) (s : State) : Outcome State Fault Refusal :=
  rrMeaning .addc rd rs1 f rs2 s

/-- `rr.sub`: R195. -/
def execRrSub (rd rs1 : Reg) (f : Bool) (rs2 : Reg) (_j : BitVec 5) (s : State) : Outcome State Fault Refusal :=
  rrMeaning .sub rd rs1 f rs2 s

/-- `rr.subb`: R196. -/
def execRrSubb (rd rs1 : Reg) (f : Bool) (rs2 : Reg) (_j : BitVec 5) (s : State) : Outcome State Fault Refusal :=
  rrMeaning .subb rd rs1 f rs2 s

/-- `rr.and`: R197. -/
def execRrAnd (rd rs1 : Reg) (f : Bool) (rs2 : Reg) (_j : BitVec 5) (s : State) : Outcome State Fault Refusal :=
  rrMeaning .and rd rs1 f rs2 s

/-- `rr.or`: R198. -/
def execRrOr (rd rs1 : Reg) (f : Bool) (rs2 : Reg) (_j : BitVec 5) (s : State) : Outcome State Fault Refusal :=
  rrMeaning .or rd rs1 f rs2 s

/-- `rr.xor`: R199. -/
def execRrXor (rd rs1 : Reg) (f : Bool) (rs2 : Reg) (_j : BitVec 5) (s : State) : Outcome State Fault Refusal :=
  rrMeaning .xor rd rs1 f rs2 s

/-- `rr.sh`: R200. -/
def execRrSh (rd rs1 : Reg) (f : Bool) (rs2 : Reg) (s : State) : Outcome State Fault Refusal :=
  rrMeaning .sh rd rs1 f rs2 s

/-- `rr.sha`: R201. -/
def execRrSha (rd rs1 : Reg) (f : Bool) (rs2 : Reg) (s : State) : Outcome State Fault Refusal :=
  rrMeaning .sha rd rs1 f rs2 s

end Sys2Proof.Machine
end

