-- ==== Sys2Proof/Machine/Rrm.lean ====
section
/-! DEFINITION. Register Register Memory instructions (45_rrm.md): one meaning per row, over the shared rule
R265. -/

namespace Sys2Proof.Machine

open Host (Outcome)

/-- The address part of R265: in mode base the operation is not performed (R261), Rs2 is still checked. -/
def rrmAddress (op : AluOp) (rs1 : Reg) (m : Mode) (rs2 : Reg) (s : State) :
    Except Refusal (Word × Option (Gpr × Word)) := do
  let a ← source .rs1 rs1 s
  let b ← source .rs2 rs2 s
  let base ← baseReg m rs1
  match m with
  | .base => return addrMode m base a a
  | .post | .off | .pre => do
    let o ← compute op a b s
    return addrMode m base a o.r

/-- The register fields among Rs1, Rs2 that R265 reads: in mode base (PQ = 00) it has no `x[Rs2]`, so Rs2, which
is checked, is not accessed. That an access is what the pseudocode reads or writes is the model's choice, DESIGN
CHOICE, seen only under `SPECIAL_REGS` (log entry 10). -/
def rrmReads (rs1 : Reg) (m : Mode) (rs2 : Reg) : List Reg :=
  match m with
  | .base => [rs1]
  | .post | .off | .pre => [rs1, rs2]

/-- Rule R265 with S = 0. -/
def rrmLoadEffects (size : Size) (ext : Ext) (op : AluOp) (rd rs1 : Reg) (m : Mode) (rs2 : Reg)
    (s : State) : Except Refusal Effects := do
  let g ← plainRd .rrm rd
  let x ← rrmAddress op rs1 m rs2 s
  loadEffects g size ext x s

/-- Rule R265 with S = 1. -/
def rrmStoreEffects (size : Size) (op : AluOp) (rd rs1 : Reg) (m : Mode) (rs2 : Reg) (s : State) :
    Except Refusal Effects := do
  let g ← plainRd .rrm rd
  let x ← rrmAddress op rs1 m rs2 s
  storeEffects g size x s

def rrmLoad (size : Size) (ext : Ext) (op : AluOp) (rd rs1 : Reg) (m : Mode) (rs2 : Reg) (s : State) :
    Outcome State Fault Refusal :=
  runEffects (rrmReads rs1 m rs2) (rrmLoadEffects size ext op rd rs1 m rs2 s) s

def rrmStore (size : Size) (op : AluOp) (rd rs1 : Reg) (m : Mode) (rs2 : Reg) (s : State) :
    Outcome State Fault Refusal :=
  runEffects (rd :: rrmReads rs1 m rs2) (rrmStoreEffects size op rd rs1 m rs2 s) s

/-- `rrm.ld.add`: R266. -/
def execRrmLdAdd (rd rs1 : Reg) (m : Mode) (rs2 : Reg) (_j : BitVec 5) (_e : Bool) (s : State) : Outcome State Fault Refusal :=
  rrmLoad .full .zero .add rd rs1 m rs2 s

/-- `rrm.ldh.add`: R267. -/
def execRrmLdhAdd (rd rs1 : Reg) (m : Mode) (rs2 : Reg) (_j : BitVec 5) (s : State) : Outcome State Fault Refusal :=
  rrmLoad .half .sign .add rd rs1 m rs2 s

/-- `rrm.ldhu.add`: R268. -/
def execRrmLdhuAdd (rd rs1 : Reg) (m : Mode) (rs2 : Reg) (_j : BitVec 5) (s : State) : Outcome State Fault Refusal :=
  rrmLoad .half .zero .add rd rs1 m rs2 s

/-- `rrm.ldb.add`: R269. -/
def execRrmLdbAdd (rd rs1 : Reg) (m : Mode) (rs2 : Reg) (_j : BitVec 5) (s : State) : Outcome State Fault Refusal :=
  rrmLoad .byte .sign .add rd rs1 m rs2 s

/-- `rrm.ldbu.add`: R270. -/
def execRrmLdbuAdd (rd rs1 : Reg) (m : Mode) (rs2 : Reg) (_j : BitVec 5) (s : State) : Outcome State Fault Refusal :=
  rrmLoad .byte .zero .add rd rs1 m rs2 s

/-- `rrm.st.add`: R271. -/
def execRrmStAdd (rd rs1 : Reg) (m : Mode) (rs2 : Reg) (_j : BitVec 5) (_e : Bool) (s : State) : Outcome State Fault Refusal :=
  rrmStore .full .add rd rs1 m rs2 s

/-- `rrm.sth.add`: R272. -/
def execRrmSthAdd (rd rs1 : Reg) (m : Mode) (rs2 : Reg) (_j : BitVec 5) (_e : Bool) (s : State) : Outcome State Fault Refusal :=
  rrmStore .half .add rd rs1 m rs2 s

/-- `rrm.stb.add`: R273. -/
def execRrmStbAdd (rd rs1 : Reg) (m : Mode) (rs2 : Reg) (_j : BitVec 5) (_e : Bool) (s : State) : Outcome State Fault Refusal :=
  rrmStore .byte .add rd rs1 m rs2 s

/-- `rrm.ld.addc`: R266. -/
def execRrmLdAddc (rd rs1 : Reg) (m : Mode) (rs2 : Reg) (_j : BitVec 5) (_e : Bool) (s : State) : Outcome State Fault Refusal :=
  rrmLoad .full .zero .addc rd rs1 m rs2 s

/-- `rrm.ldh.addc`: R267. -/
def execRrmLdhAddc (rd rs1 : Reg) (m : Mode) (rs2 : Reg) (_j : BitVec 5) (s : State) : Outcome State Fault Refusal :=
  rrmLoad .half .sign .addc rd rs1 m rs2 s

/-- `rrm.ldhu.addc`: R268. -/
def execRrmLdhuAddc (rd rs1 : Reg) (m : Mode) (rs2 : Reg) (_j : BitVec 5) (s : State) : Outcome State Fault Refusal :=
  rrmLoad .half .zero .addc rd rs1 m rs2 s

/-- `rrm.ldb.addc`: R269. -/
def execRrmLdbAddc (rd rs1 : Reg) (m : Mode) (rs2 : Reg) (_j : BitVec 5) (s : State) : Outcome State Fault Refusal :=
  rrmLoad .byte .sign .addc rd rs1 m rs2 s

/-- `rrm.ldbu.addc`: R270. -/
def execRrmLdbuAddc (rd rs1 : Reg) (m : Mode) (rs2 : Reg) (_j : BitVec 5) (s : State) : Outcome State Fault Refusal :=
  rrmLoad .byte .zero .addc rd rs1 m rs2 s

/-- `rrm.st.addc`: R271. -/
def execRrmStAddc (rd rs1 : Reg) (m : Mode) (rs2 : Reg) (_j : BitVec 5) (_e : Bool) (s : State) : Outcome State Fault Refusal :=
  rrmStore .full .addc rd rs1 m rs2 s

/-- `rrm.sth.addc`: R272. -/
def execRrmSthAddc (rd rs1 : Reg) (m : Mode) (rs2 : Reg) (_j : BitVec 5) (_e : Bool) (s : State) : Outcome State Fault Refusal :=
  rrmStore .half .addc rd rs1 m rs2 s

/-- `rrm.stb.addc`: R273. -/
def execRrmStbAddc (rd rs1 : Reg) (m : Mode) (rs2 : Reg) (_j : BitVec 5) (_e : Bool) (s : State) : Outcome State Fault Refusal :=
  rrmStore .byte .addc rd rs1 m rs2 s

/-- `rrm.ld.sub`: R266. -/
def execRrmLdSub (rd rs1 : Reg) (m : Mode) (rs2 : Reg) (_j : BitVec 5) (_e : Bool) (s : State) : Outcome State Fault Refusal :=
  rrmLoad .full .zero .sub rd rs1 m rs2 s

/-- `rrm.ldh.sub`: R267. -/
def execRrmLdhSub (rd rs1 : Reg) (m : Mode) (rs2 : Reg) (_j : BitVec 5) (s : State) : Outcome State Fault Refusal :=
  rrmLoad .half .sign .sub rd rs1 m rs2 s

/-- `rrm.ldhu.sub`: R268. -/
def execRrmLdhuSub (rd rs1 : Reg) (m : Mode) (rs2 : Reg) (_j : BitVec 5) (s : State) : Outcome State Fault Refusal :=
  rrmLoad .half .zero .sub rd rs1 m rs2 s

/-- `rrm.ldb.sub`: R269. -/
def execRrmLdbSub (rd rs1 : Reg) (m : Mode) (rs2 : Reg) (_j : BitVec 5) (s : State) : Outcome State Fault Refusal :=
  rrmLoad .byte .sign .sub rd rs1 m rs2 s

/-- `rrm.ldbu.sub`: R270. -/
def execRrmLdbuSub (rd rs1 : Reg) (m : Mode) (rs2 : Reg) (_j : BitVec 5) (s : State) : Outcome State Fault Refusal :=
  rrmLoad .byte .zero .sub rd rs1 m rs2 s

/-- `rrm.st.sub`: R271. -/
def execRrmStSub (rd rs1 : Reg) (m : Mode) (rs2 : Reg) (_j : BitVec 5) (_e : Bool) (s : State) : Outcome State Fault Refusal :=
  rrmStore .full .sub rd rs1 m rs2 s

/-- `rrm.sth.sub`: R272. -/
def execRrmSthSub (rd rs1 : Reg) (m : Mode) (rs2 : Reg) (_j : BitVec 5) (_e : Bool) (s : State) : Outcome State Fault Refusal :=
  rrmStore .half .sub rd rs1 m rs2 s

/-- `rrm.stb.sub`: R273. -/
def execRrmStbSub (rd rs1 : Reg) (m : Mode) (rs2 : Reg) (_j : BitVec 5) (_e : Bool) (s : State) : Outcome State Fault Refusal :=
  rrmStore .byte .sub rd rs1 m rs2 s

/-- `rrm.ld.subb`: R266. -/
def execRrmLdSubb (rd rs1 : Reg) (m : Mode) (rs2 : Reg) (_j : BitVec 5) (_e : Bool) (s : State) : Outcome State Fault Refusal :=
  rrmLoad .full .zero .subb rd rs1 m rs2 s

/-- `rrm.ldh.subb`: R267. -/
def execRrmLdhSubb (rd rs1 : Reg) (m : Mode) (rs2 : Reg) (_j : BitVec 5) (s : State) : Outcome State Fault Refusal :=
  rrmLoad .half .sign .subb rd rs1 m rs2 s

/-- `rrm.ldhu.subb`: R268. -/
def execRrmLdhuSubb (rd rs1 : Reg) (m : Mode) (rs2 : Reg) (_j : BitVec 5) (s : State) : Outcome State Fault Refusal :=
  rrmLoad .half .zero .subb rd rs1 m rs2 s

/-- `rrm.ldb.subb`: R269. -/
def execRrmLdbSubb (rd rs1 : Reg) (m : Mode) (rs2 : Reg) (_j : BitVec 5) (s : State) : Outcome State Fault Refusal :=
  rrmLoad .byte .sign .subb rd rs1 m rs2 s

/-- `rrm.ldbu.subb`: R270. -/
def execRrmLdbuSubb (rd rs1 : Reg) (m : Mode) (rs2 : Reg) (_j : BitVec 5) (s : State) : Outcome State Fault Refusal :=
  rrmLoad .byte .zero .subb rd rs1 m rs2 s

/-- `rrm.st.subb`: R271. -/
def execRrmStSubb (rd rs1 : Reg) (m : Mode) (rs2 : Reg) (_j : BitVec 5) (_e : Bool) (s : State) : Outcome State Fault Refusal :=
  rrmStore .full .subb rd rs1 m rs2 s

/-- `rrm.sth.subb`: R272. -/
def execRrmSthSubb (rd rs1 : Reg) (m : Mode) (rs2 : Reg) (_j : BitVec 5) (_e : Bool) (s : State) : Outcome State Fault Refusal :=
  rrmStore .half .subb rd rs1 m rs2 s

/-- `rrm.stb.subb`: R273. -/
def execRrmStbSubb (rd rs1 : Reg) (m : Mode) (rs2 : Reg) (_j : BitVec 5) (_e : Bool) (s : State) : Outcome State Fault Refusal :=
  rrmStore .byte .subb rd rs1 m rs2 s

/-- `rrm.ld.and`: R266. -/
def execRrmLdAnd (rd rs1 : Reg) (m : Mode) (rs2 : Reg) (_j : BitVec 5) (_e : Bool) (s : State) : Outcome State Fault Refusal :=
  rrmLoad .full .zero .and rd rs1 m rs2 s

/-- `rrm.ldh.and`: R267. -/
def execRrmLdhAnd (rd rs1 : Reg) (m : Mode) (rs2 : Reg) (_j : BitVec 5) (s : State) : Outcome State Fault Refusal :=
  rrmLoad .half .sign .and rd rs1 m rs2 s

/-- `rrm.ldhu.and`: R268. -/
def execRrmLdhuAnd (rd rs1 : Reg) (m : Mode) (rs2 : Reg) (_j : BitVec 5) (s : State) : Outcome State Fault Refusal :=
  rrmLoad .half .zero .and rd rs1 m rs2 s

/-- `rrm.ldb.and`: R269. -/
def execRrmLdbAnd (rd rs1 : Reg) (m : Mode) (rs2 : Reg) (_j : BitVec 5) (s : State) : Outcome State Fault Refusal :=
  rrmLoad .byte .sign .and rd rs1 m rs2 s

/-- `rrm.ldbu.and`: R270. -/
def execRrmLdbuAnd (rd rs1 : Reg) (m : Mode) (rs2 : Reg) (_j : BitVec 5) (s : State) : Outcome State Fault Refusal :=
  rrmLoad .byte .zero .and rd rs1 m rs2 s

/-- `rrm.st.and`: R271. -/
def execRrmStAnd (rd rs1 : Reg) (m : Mode) (rs2 : Reg) (_j : BitVec 5) (_e : Bool) (s : State) : Outcome State Fault Refusal :=
  rrmStore .full .and rd rs1 m rs2 s

/-- `rrm.sth.and`: R272. -/
def execRrmSthAnd (rd rs1 : Reg) (m : Mode) (rs2 : Reg) (_j : BitVec 5) (_e : Bool) (s : State) : Outcome State Fault Refusal :=
  rrmStore .half .and rd rs1 m rs2 s

/-- `rrm.stb.and`: R273. -/
def execRrmStbAnd (rd rs1 : Reg) (m : Mode) (rs2 : Reg) (_j : BitVec 5) (_e : Bool) (s : State) : Outcome State Fault Refusal :=
  rrmStore .byte .and rd rs1 m rs2 s

/-- `rrm.ld.or`: R266. -/
def execRrmLdOr (rd rs1 : Reg) (m : Mode) (rs2 : Reg) (_j : BitVec 5) (_e : Bool) (s : State) : Outcome State Fault Refusal :=
  rrmLoad .full .zero .or rd rs1 m rs2 s

/-- `rrm.ldh.or`: R267. -/
def execRrmLdhOr (rd rs1 : Reg) (m : Mode) (rs2 : Reg) (_j : BitVec 5) (s : State) : Outcome State Fault Refusal :=
  rrmLoad .half .sign .or rd rs1 m rs2 s

/-- `rrm.ldhu.or`: R268. -/
def execRrmLdhuOr (rd rs1 : Reg) (m : Mode) (rs2 : Reg) (_j : BitVec 5) (s : State) : Outcome State Fault Refusal :=
  rrmLoad .half .zero .or rd rs1 m rs2 s

/-- `rrm.ldb.or`: R269. -/
def execRrmLdbOr (rd rs1 : Reg) (m : Mode) (rs2 : Reg) (_j : BitVec 5) (s : State) : Outcome State Fault Refusal :=
  rrmLoad .byte .sign .or rd rs1 m rs2 s

/-- `rrm.ldbu.or`: R270. -/
def execRrmLdbuOr (rd rs1 : Reg) (m : Mode) (rs2 : Reg) (_j : BitVec 5) (s : State) : Outcome State Fault Refusal :=
  rrmLoad .byte .zero .or rd rs1 m rs2 s

/-- `rrm.st.or`: R271. -/
def execRrmStOr (rd rs1 : Reg) (m : Mode) (rs2 : Reg) (_j : BitVec 5) (_e : Bool) (s : State) : Outcome State Fault Refusal :=
  rrmStore .full .or rd rs1 m rs2 s

/-- `rrm.sth.or`: R272. -/
def execRrmSthOr (rd rs1 : Reg) (m : Mode) (rs2 : Reg) (_j : BitVec 5) (_e : Bool) (s : State) : Outcome State Fault Refusal :=
  rrmStore .half .or rd rs1 m rs2 s

/-- `rrm.stb.or`: R273. -/
def execRrmStbOr (rd rs1 : Reg) (m : Mode) (rs2 : Reg) (_j : BitVec 5) (_e : Bool) (s : State) : Outcome State Fault Refusal :=
  rrmStore .byte .or rd rs1 m rs2 s

/-- `rrm.ld.xor`: R266. -/
def execRrmLdXor (rd rs1 : Reg) (m : Mode) (rs2 : Reg) (_j : BitVec 5) (_e : Bool) (s : State) : Outcome State Fault Refusal :=
  rrmLoad .full .zero .xor rd rs1 m rs2 s

/-- `rrm.ldh.xor`: R267. -/
def execRrmLdhXor (rd rs1 : Reg) (m : Mode) (rs2 : Reg) (_j : BitVec 5) (s : State) : Outcome State Fault Refusal :=
  rrmLoad .half .sign .xor rd rs1 m rs2 s

/-- `rrm.ldhu.xor`: R268. -/
def execRrmLdhuXor (rd rs1 : Reg) (m : Mode) (rs2 : Reg) (_j : BitVec 5) (s : State) : Outcome State Fault Refusal :=
  rrmLoad .half .zero .xor rd rs1 m rs2 s

/-- `rrm.ldb.xor`: R269. -/
def execRrmLdbXor (rd rs1 : Reg) (m : Mode) (rs2 : Reg) (_j : BitVec 5) (s : State) : Outcome State Fault Refusal :=
  rrmLoad .byte .sign .xor rd rs1 m rs2 s

/-- `rrm.ldbu.xor`: R270. -/
def execRrmLdbuXor (rd rs1 : Reg) (m : Mode) (rs2 : Reg) (_j : BitVec 5) (s : State) : Outcome State Fault Refusal :=
  rrmLoad .byte .zero .xor rd rs1 m rs2 s

/-- `rrm.st.xor`: R271. -/
def execRrmStXor (rd rs1 : Reg) (m : Mode) (rs2 : Reg) (_j : BitVec 5) (_e : Bool) (s : State) : Outcome State Fault Refusal :=
  rrmStore .full .xor rd rs1 m rs2 s

/-- `rrm.sth.xor`: R272. -/
def execRrmSthXor (rd rs1 : Reg) (m : Mode) (rs2 : Reg) (_j : BitVec 5) (_e : Bool) (s : State) : Outcome State Fault Refusal :=
  rrmStore .half .xor rd rs1 m rs2 s

/-- `rrm.stb.xor`: R273. -/
def execRrmStbXor (rd rs1 : Reg) (m : Mode) (rs2 : Reg) (_j : BitVec 5) (_e : Bool) (s : State) : Outcome State Fault Refusal :=
  rrmStore .byte .xor rd rs1 m rs2 s

/-- `rrm.ld.sh`: R274. -/
def execRrmLdSh (rd rs1 : Reg) (m : Mode) (rs2 : Reg) (_yle : BitVec 3) (s : State) : Outcome State Fault Refusal :=
  rrmLoad .full .zero .sh rd rs1 m rs2 s

/-- `rrm.ld.sha`: R275. -/
def execRrmLdSha (rd rs1 : Reg) (m : Mode) (rs2 : Reg) (_yle : BitVec 3) (s : State) : Outcome State Fault Refusal :=
  rrmLoad .full .zero .sha rd rs1 m rs2 s

/-- `rrm.st.sh`: R276. -/
def execRrmStSh (rd rs1 : Reg) (m : Mode) (rs2 : Reg) (_yle : BitVec 3) (s : State) : Outcome State Fault Refusal :=
  rrmStore .full .sh rd rs1 m rs2 s

/-- `rrm.st.sha`: R277. -/
def execRrmStSha (rd rs1 : Reg) (m : Mode) (rs2 : Reg) (_yle : BitVec 3) (s : State) : Outcome State Fault Refusal :=
  rrmStore .full .sha rd rs1 m rs2 s

end Sys2Proof.Machine
end

