-- ==== Sys2Proof/Machine/Rrr.lean ====
section
/-! DEFINITION. Three-Register instructions (43_rrr.md): one meaning per row, over the shared rule R210. -/

namespace Sys2Proof.Machine

open Host (Outcome)

/-- Rule R210: `Rd <- Rs1 op2 (Rs2 op1 Rs3)`; only op2 reaches the flags, and both operations read the C of
before the instruction (R212). -/
def rrrEffects (op2 op1 : AluOp) (rd rs1 : Reg) (f : Bool) (rs2 rs3 : Reg) (s : State) :
    Except Refusal Effects := do
  let g ← plainRd .rrr rd
  let a2 ← source .rs1 rs1 s
  let a1 ← source .rs2 rs2 s
  let b1 ← source .rs3 rs3 s
  let t ← compute op1 a1 b1 s
  let o ← compute op2 a2 t.r s
  return putResult .rrr (.reg g) f o s

def rrrMeaning (op2 op1 : AluOp) (rd rs1 : Reg) (f : Bool) (rs2 rs3 : Reg) (s : State) :
    Outcome State Fault Refusal :=
  runEffects [rd, rs1, rs2, rs3] (rrrEffects op2 op1 rd rs1 f rs2 rs3 s) s

/-- `rrr.add.add`: R213 with R222. -/
def execRrrAddAdd (rd rs1 : Reg) (f _h : Bool) (rs2 rs3 : Reg) (s : State) : Outcome State Fault Refusal :=
  rrrMeaning .add .add rd rs1 f rs2 rs3 s

/-- `rrr.add.addc`: R213 with R223. -/
def execRrrAddAddc (rd rs1 : Reg) (f _h : Bool) (rs2 rs3 : Reg) (s : State) : Outcome State Fault Refusal :=
  rrrMeaning .add .addc rd rs1 f rs2 rs3 s

/-- `rrr.add.sub`: R213 with R224. -/
def execRrrAddSub (rd rs1 : Reg) (f _h : Bool) (rs2 rs3 : Reg) (s : State) : Outcome State Fault Refusal :=
  rrrMeaning .add .sub rd rs1 f rs2 rs3 s

/-- `rrr.add.subb`: R213 with R225. -/
def execRrrAddSubb (rd rs1 : Reg) (f _h : Bool) (rs2 rs3 : Reg) (s : State) : Outcome State Fault Refusal :=
  rrrMeaning .add .subb rd rs1 f rs2 rs3 s

/-- `rrr.add.and`: R213 with R226. -/
def execRrrAddAnd (rd rs1 : Reg) (f _h : Bool) (rs2 rs3 : Reg) (s : State) : Outcome State Fault Refusal :=
  rrrMeaning .add .and rd rs1 f rs2 rs3 s

/-- `rrr.add.or`: R213 with R227. -/
def execRrrAddOr (rd rs1 : Reg) (f _h : Bool) (rs2 rs3 : Reg) (s : State) : Outcome State Fault Refusal :=
  rrrMeaning .add .or rd rs1 f rs2 rs3 s

/-- `rrr.add.xor`: R213 with R228. -/
def execRrrAddXor (rd rs1 : Reg) (f _h : Bool) (rs2 rs3 : Reg) (s : State) : Outcome State Fault Refusal :=
  rrrMeaning .add .xor rd rs1 f rs2 rs3 s

/-- `rrr.add.sha`: R213 with R229. -/
def execRrrAddSha (rd rs1 : Reg) (f _h : Bool) (rs2 rs3 : Reg) (s : State) : Outcome State Fault Refusal :=
  rrrMeaning .add .sha rd rs1 f rs2 rs3 s

/-- `rrr.addc.add`: R214 with R222. -/
def execRrrAddcAdd (rd rs1 : Reg) (f _h : Bool) (rs2 rs3 : Reg) (s : State) : Outcome State Fault Refusal :=
  rrrMeaning .addc .add rd rs1 f rs2 rs3 s

/-- `rrr.addc.addc`: R214 with R223. -/
def execRrrAddcAddc (rd rs1 : Reg) (f _h : Bool) (rs2 rs3 : Reg) (s : State) : Outcome State Fault Refusal :=
  rrrMeaning .addc .addc rd rs1 f rs2 rs3 s

/-- `rrr.addc.sub`: R214 with R224. -/
def execRrrAddcSub (rd rs1 : Reg) (f _h : Bool) (rs2 rs3 : Reg) (s : State) : Outcome State Fault Refusal :=
  rrrMeaning .addc .sub rd rs1 f rs2 rs3 s

/-- `rrr.addc.subb`: R214 with R225. -/
def execRrrAddcSubb (rd rs1 : Reg) (f _h : Bool) (rs2 rs3 : Reg) (s : State) : Outcome State Fault Refusal :=
  rrrMeaning .addc .subb rd rs1 f rs2 rs3 s

/-- `rrr.addc.and`: R214 with R226. -/
def execRrrAddcAnd (rd rs1 : Reg) (f _h : Bool) (rs2 rs3 : Reg) (s : State) : Outcome State Fault Refusal :=
  rrrMeaning .addc .and rd rs1 f rs2 rs3 s

/-- `rrr.addc.or`: R214 with R227. -/
def execRrrAddcOr (rd rs1 : Reg) (f _h : Bool) (rs2 rs3 : Reg) (s : State) : Outcome State Fault Refusal :=
  rrrMeaning .addc .or rd rs1 f rs2 rs3 s

/-- `rrr.addc.xor`: R214 with R228. -/
def execRrrAddcXor (rd rs1 : Reg) (f _h : Bool) (rs2 rs3 : Reg) (s : State) : Outcome State Fault Refusal :=
  rrrMeaning .addc .xor rd rs1 f rs2 rs3 s

/-- `rrr.addc.sha`: R214 with R229. -/
def execRrrAddcSha (rd rs1 : Reg) (f _h : Bool) (rs2 rs3 : Reg) (s : State) : Outcome State Fault Refusal :=
  rrrMeaning .addc .sha rd rs1 f rs2 rs3 s

/-- `rrr.sub.add`: R215 with R222. -/
def execRrrSubAdd (rd rs1 : Reg) (f _h : Bool) (rs2 rs3 : Reg) (s : State) : Outcome State Fault Refusal :=
  rrrMeaning .sub .add rd rs1 f rs2 rs3 s

/-- `rrr.sub.addc`: R215 with R223. -/
def execRrrSubAddc (rd rs1 : Reg) (f _h : Bool) (rs2 rs3 : Reg) (s : State) : Outcome State Fault Refusal :=
  rrrMeaning .sub .addc rd rs1 f rs2 rs3 s

/-- `rrr.sub.sub`: R215 with R224. -/
def execRrrSubSub (rd rs1 : Reg) (f _h : Bool) (rs2 rs3 : Reg) (s : State) : Outcome State Fault Refusal :=
  rrrMeaning .sub .sub rd rs1 f rs2 rs3 s

/-- `rrr.sub.subb`: R215 with R225. -/
def execRrrSubSubb (rd rs1 : Reg) (f _h : Bool) (rs2 rs3 : Reg) (s : State) : Outcome State Fault Refusal :=
  rrrMeaning .sub .subb rd rs1 f rs2 rs3 s

/-- `rrr.sub.and`: R215 with R226. -/
def execRrrSubAnd (rd rs1 : Reg) (f _h : Bool) (rs2 rs3 : Reg) (s : State) : Outcome State Fault Refusal :=
  rrrMeaning .sub .and rd rs1 f rs2 rs3 s

/-- `rrr.sub.or`: R215 with R227. -/
def execRrrSubOr (rd rs1 : Reg) (f _h : Bool) (rs2 rs3 : Reg) (s : State) : Outcome State Fault Refusal :=
  rrrMeaning .sub .or rd rs1 f rs2 rs3 s

/-- `rrr.sub.xor`: R215 with R228. -/
def execRrrSubXor (rd rs1 : Reg) (f _h : Bool) (rs2 rs3 : Reg) (s : State) : Outcome State Fault Refusal :=
  rrrMeaning .sub .xor rd rs1 f rs2 rs3 s

/-- `rrr.sub.sha`: R215 with R229. -/
def execRrrSubSha (rd rs1 : Reg) (f _h : Bool) (rs2 rs3 : Reg) (s : State) : Outcome State Fault Refusal :=
  rrrMeaning .sub .sha rd rs1 f rs2 rs3 s

/-- `rrr.subb.add`: R216 with R222. -/
def execRrrSubbAdd (rd rs1 : Reg) (f _h : Bool) (rs2 rs3 : Reg) (s : State) : Outcome State Fault Refusal :=
  rrrMeaning .subb .add rd rs1 f rs2 rs3 s

/-- `rrr.subb.addc`: R216 with R223. -/
def execRrrSubbAddc (rd rs1 : Reg) (f _h : Bool) (rs2 rs3 : Reg) (s : State) : Outcome State Fault Refusal :=
  rrrMeaning .subb .addc rd rs1 f rs2 rs3 s

/-- `rrr.subb.sub`: R216 with R224. -/
def execRrrSubbSub (rd rs1 : Reg) (f _h : Bool) (rs2 rs3 : Reg) (s : State) : Outcome State Fault Refusal :=
  rrrMeaning .subb .sub rd rs1 f rs2 rs3 s

/-- `rrr.subb.subb`: R216 with R225. -/
def execRrrSubbSubb (rd rs1 : Reg) (f _h : Bool) (rs2 rs3 : Reg) (s : State) : Outcome State Fault Refusal :=
  rrrMeaning .subb .subb rd rs1 f rs2 rs3 s

/-- `rrr.subb.and`: R216 with R226. -/
def execRrrSubbAnd (rd rs1 : Reg) (f _h : Bool) (rs2 rs3 : Reg) (s : State) : Outcome State Fault Refusal :=
  rrrMeaning .subb .and rd rs1 f rs2 rs3 s

/-- `rrr.subb.or`: R216 with R227. -/
def execRrrSubbOr (rd rs1 : Reg) (f _h : Bool) (rs2 rs3 : Reg) (s : State) : Outcome State Fault Refusal :=
  rrrMeaning .subb .or rd rs1 f rs2 rs3 s

/-- `rrr.subb.xor`: R216 with R228. -/
def execRrrSubbXor (rd rs1 : Reg) (f _h : Bool) (rs2 rs3 : Reg) (s : State) : Outcome State Fault Refusal :=
  rrrMeaning .subb .xor rd rs1 f rs2 rs3 s

/-- `rrr.subb.sha`: R216 with R229. -/
def execRrrSubbSha (rd rs1 : Reg) (f _h : Bool) (rs2 rs3 : Reg) (s : State) : Outcome State Fault Refusal :=
  rrrMeaning .subb .sha rd rs1 f rs2 rs3 s

/-- `rrr.and.add`: R217 with R222. -/
def execRrrAndAdd (rd rs1 : Reg) (f _h : Bool) (rs2 rs3 : Reg) (s : State) : Outcome State Fault Refusal :=
  rrrMeaning .and .add rd rs1 f rs2 rs3 s

/-- `rrr.and.addc`: R217 with R223. -/
def execRrrAndAddc (rd rs1 : Reg) (f _h : Bool) (rs2 rs3 : Reg) (s : State) : Outcome State Fault Refusal :=
  rrrMeaning .and .addc rd rs1 f rs2 rs3 s

/-- `rrr.and.sub`: R217 with R224. -/
def execRrrAndSub (rd rs1 : Reg) (f _h : Bool) (rs2 rs3 : Reg) (s : State) : Outcome State Fault Refusal :=
  rrrMeaning .and .sub rd rs1 f rs2 rs3 s

/-- `rrr.and.subb`: R217 with R225. -/
def execRrrAndSubb (rd rs1 : Reg) (f _h : Bool) (rs2 rs3 : Reg) (s : State) : Outcome State Fault Refusal :=
  rrrMeaning .and .subb rd rs1 f rs2 rs3 s

/-- `rrr.and.and`: R217 with R226. -/
def execRrrAndAnd (rd rs1 : Reg) (f _h : Bool) (rs2 rs3 : Reg) (s : State) : Outcome State Fault Refusal :=
  rrrMeaning .and .and rd rs1 f rs2 rs3 s

/-- `rrr.and.or`: R217 with R227. -/
def execRrrAndOr (rd rs1 : Reg) (f _h : Bool) (rs2 rs3 : Reg) (s : State) : Outcome State Fault Refusal :=
  rrrMeaning .and .or rd rs1 f rs2 rs3 s

/-- `rrr.and.xor`: R217 with R228. -/
def execRrrAndXor (rd rs1 : Reg) (f _h : Bool) (rs2 rs3 : Reg) (s : State) : Outcome State Fault Refusal :=
  rrrMeaning .and .xor rd rs1 f rs2 rs3 s

/-- `rrr.and.sha`: R217 with R229. -/
def execRrrAndSha (rd rs1 : Reg) (f _h : Bool) (rs2 rs3 : Reg) (s : State) : Outcome State Fault Refusal :=
  rrrMeaning .and .sha rd rs1 f rs2 rs3 s

/-- `rrr.or.add`: R218 with R222. -/
def execRrrOrAdd (rd rs1 : Reg) (f _h : Bool) (rs2 rs3 : Reg) (s : State) : Outcome State Fault Refusal :=
  rrrMeaning .or .add rd rs1 f rs2 rs3 s

/-- `rrr.or.addc`: R218 with R223. -/
def execRrrOrAddc (rd rs1 : Reg) (f _h : Bool) (rs2 rs3 : Reg) (s : State) : Outcome State Fault Refusal :=
  rrrMeaning .or .addc rd rs1 f rs2 rs3 s

/-- `rrr.or.sub`: R218 with R224. -/
def execRrrOrSub (rd rs1 : Reg) (f _h : Bool) (rs2 rs3 : Reg) (s : State) : Outcome State Fault Refusal :=
  rrrMeaning .or .sub rd rs1 f rs2 rs3 s

/-- `rrr.or.subb`: R218 with R225. -/
def execRrrOrSubb (rd rs1 : Reg) (f _h : Bool) (rs2 rs3 : Reg) (s : State) : Outcome State Fault Refusal :=
  rrrMeaning .or .subb rd rs1 f rs2 rs3 s

/-- `rrr.or.and`: R218 with R226. -/
def execRrrOrAnd (rd rs1 : Reg) (f _h : Bool) (rs2 rs3 : Reg) (s : State) : Outcome State Fault Refusal :=
  rrrMeaning .or .and rd rs1 f rs2 rs3 s

/-- `rrr.or.or`: R218 with R227. -/
def execRrrOrOr (rd rs1 : Reg) (f _h : Bool) (rs2 rs3 : Reg) (s : State) : Outcome State Fault Refusal :=
  rrrMeaning .or .or rd rs1 f rs2 rs3 s

/-- `rrr.or.xor`: R218 with R228. -/
def execRrrOrXor (rd rs1 : Reg) (f _h : Bool) (rs2 rs3 : Reg) (s : State) : Outcome State Fault Refusal :=
  rrrMeaning .or .xor rd rs1 f rs2 rs3 s

/-- `rrr.or.sha`: R218 with R229. -/
def execRrrOrSha (rd rs1 : Reg) (f _h : Bool) (rs2 rs3 : Reg) (s : State) : Outcome State Fault Refusal :=
  rrrMeaning .or .sha rd rs1 f rs2 rs3 s

/-- `rrr.xor.add`: R219 with R222. -/
def execRrrXorAdd (rd rs1 : Reg) (f _h : Bool) (rs2 rs3 : Reg) (s : State) : Outcome State Fault Refusal :=
  rrrMeaning .xor .add rd rs1 f rs2 rs3 s

/-- `rrr.xor.addc`: R219 with R223. -/
def execRrrXorAddc (rd rs1 : Reg) (f _h : Bool) (rs2 rs3 : Reg) (s : State) : Outcome State Fault Refusal :=
  rrrMeaning .xor .addc rd rs1 f rs2 rs3 s

/-- `rrr.xor.sub`: R219 with R224. -/
def execRrrXorSub (rd rs1 : Reg) (f _h : Bool) (rs2 rs3 : Reg) (s : State) : Outcome State Fault Refusal :=
  rrrMeaning .xor .sub rd rs1 f rs2 rs3 s

/-- `rrr.xor.subb`: R219 with R225. -/
def execRrrXorSubb (rd rs1 : Reg) (f _h : Bool) (rs2 rs3 : Reg) (s : State) : Outcome State Fault Refusal :=
  rrrMeaning .xor .subb rd rs1 f rs2 rs3 s

/-- `rrr.xor.and`: R219 with R226. -/
def execRrrXorAnd (rd rs1 : Reg) (f _h : Bool) (rs2 rs3 : Reg) (s : State) : Outcome State Fault Refusal :=
  rrrMeaning .xor .and rd rs1 f rs2 rs3 s

/-- `rrr.xor.or`: R219 with R227. -/
def execRrrXorOr (rd rs1 : Reg) (f _h : Bool) (rs2 rs3 : Reg) (s : State) : Outcome State Fault Refusal :=
  rrrMeaning .xor .or rd rs1 f rs2 rs3 s

/-- `rrr.xor.xor`: R219 with R228. -/
def execRrrXorXor (rd rs1 : Reg) (f _h : Bool) (rs2 rs3 : Reg) (s : State) : Outcome State Fault Refusal :=
  rrrMeaning .xor .xor rd rs1 f rs2 rs3 s

/-- `rrr.xor.sha`: R219 with R229. -/
def execRrrXorSha (rd rs1 : Reg) (f _h : Bool) (rs2 rs3 : Reg) (s : State) : Outcome State Fault Refusal :=
  rrrMeaning .xor .sha rd rs1 f rs2 rs3 s

/-- `rrr.sh.add`: R220 with R222. -/
def execRrrShAdd (rd rs1 : Reg) (f : Bool) (rs2 rs3 : Reg) (s : State) : Outcome State Fault Refusal :=
  rrrMeaning .sh .add rd rs1 f rs2 rs3 s

/-- `rrr.sh.addc`: R220 with R223. -/
def execRrrShAddc (rd rs1 : Reg) (f : Bool) (rs2 rs3 : Reg) (s : State) : Outcome State Fault Refusal :=
  rrrMeaning .sh .addc rd rs1 f rs2 rs3 s

/-- `rrr.sh.sub`: R220 with R224. -/
def execRrrShSub (rd rs1 : Reg) (f : Bool) (rs2 rs3 : Reg) (s : State) : Outcome State Fault Refusal :=
  rrrMeaning .sh .sub rd rs1 f rs2 rs3 s

/-- `rrr.sh.subb`: R220 with R225. -/
def execRrrShSubb (rd rs1 : Reg) (f : Bool) (rs2 rs3 : Reg) (s : State) : Outcome State Fault Refusal :=
  rrrMeaning .sh .subb rd rs1 f rs2 rs3 s

/-- `rrr.sh.and`: R220 with R226. -/
def execRrrShAnd (rd rs1 : Reg) (f : Bool) (rs2 rs3 : Reg) (s : State) : Outcome State Fault Refusal :=
  rrrMeaning .sh .and rd rs1 f rs2 rs3 s

/-- `rrr.sh.or`: R220 with R227. -/
def execRrrShOr (rd rs1 : Reg) (f : Bool) (rs2 rs3 : Reg) (s : State) : Outcome State Fault Refusal :=
  rrrMeaning .sh .or rd rs1 f rs2 rs3 s

/-- `rrr.sh.xor`: R220 with R228. -/
def execRrrShXor (rd rs1 : Reg) (f : Bool) (rs2 rs3 : Reg) (s : State) : Outcome State Fault Refusal :=
  rrrMeaning .sh .xor rd rs1 f rs2 rs3 s

/-- `rrr.sh.sha`: R220 with R229. -/
def execRrrShSha (rd rs1 : Reg) (f : Bool) (rs2 rs3 : Reg) (s : State) : Outcome State Fault Refusal :=
  rrrMeaning .sh .sha rd rs1 f rs2 rs3 s

/-- `rrr.sha.add`: R221 with R222. -/
def execRrrShaAdd (rd rs1 : Reg) (f : Bool) (rs2 rs3 : Reg) (s : State) : Outcome State Fault Refusal :=
  rrrMeaning .sha .add rd rs1 f rs2 rs3 s

/-- `rrr.sha.addc`: R221 with R223. -/
def execRrrShaAddc (rd rs1 : Reg) (f : Bool) (rs2 rs3 : Reg) (s : State) : Outcome State Fault Refusal :=
  rrrMeaning .sha .addc rd rs1 f rs2 rs3 s

/-- `rrr.sha.sub`: R221 with R224. -/
def execRrrShaSub (rd rs1 : Reg) (f : Bool) (rs2 rs3 : Reg) (s : State) : Outcome State Fault Refusal :=
  rrrMeaning .sha .sub rd rs1 f rs2 rs3 s

/-- `rrr.sha.subb`: R221 with R225. -/
def execRrrShaSubb (rd rs1 : Reg) (f : Bool) (rs2 rs3 : Reg) (s : State) : Outcome State Fault Refusal :=
  rrrMeaning .sha .subb rd rs1 f rs2 rs3 s

/-- `rrr.sha.and`: R221 with R226. -/
def execRrrShaAnd (rd rs1 : Reg) (f : Bool) (rs2 rs3 : Reg) (s : State) : Outcome State Fault Refusal :=
  rrrMeaning .sha .and rd rs1 f rs2 rs3 s

/-- `rrr.sha.or`: R221 with R227. -/
def execRrrShaOr (rd rs1 : Reg) (f : Bool) (rs2 rs3 : Reg) (s : State) : Outcome State Fault Refusal :=
  rrrMeaning .sha .or rd rs1 f rs2 rs3 s

/-- `rrr.sha.xor`: R221 with R228. -/
def execRrrShaXor (rd rs1 : Reg) (f : Bool) (rs2 rs3 : Reg) (s : State) : Outcome State Fault Refusal :=
  rrrMeaning .sha .xor rd rs1 f rs2 rs3 s

/-- `rrr.sha.sha`: R221 with R229. -/
def execRrrShaSha (rd rs1 : Reg) (f : Bool) (rs2 rs3 : Reg) (s : State) : Outcome State Fault Refusal :=
  rrrMeaning .sha .sha rd rs1 f rs2 rs3 s

end Sys2Proof.Machine
end

