-- ==== Sys2Proof/Machine/Sbr.lean ====
section
/-! DEFINITION. Special Branch instructions (49_sbr.md): one meaning per row, over the shared rule R370. -/

namespace Sys2Proof.Machine

open Host (Outcome)

/-- Rule R370: the register fields are checked and read in either case, the target only used where the branch is
taken (R372). -/
def sbrEffects (k : Cond) (rs1 rs3 : Reg) (s : State) : Except Refusal Effects := do
  let a ← source .rs1 rs1 s
  let b ← source .rs3 rs3 s
  return if cond k s.flags then { jump := some (a + b) } else {}

def sbrMeaning (k : Cond) (rs1 rs3 : Reg) (s : State) : Outcome State Fault Refusal :=
  runEffects [rs1, rs3] (sbrEffects k rs1 rs3 s) s

/-- `sbr.t`: R374. -/
def execSbrT (rs1 rs3 : Reg) (s : State) : Outcome State Fault Refusal :=
  sbrMeaning .t rs1 rs3 s

/-- `sbr.f`: R375. -/
def execSbrF (rs1 rs3 : Reg) (s : State) : Outcome State Fault Refusal :=
  sbrMeaning .f rs1 rs3 s

/-- `sbr.hi`: R376. -/
def execSbrHi (rs1 rs3 : Reg) (s : State) : Outcome State Fault Refusal :=
  sbrMeaning .hi rs1 rs3 s

/-- `sbr.ls`: R377. -/
def execSbrLs (rs1 rs3 : Reg) (s : State) : Outcome State Fault Refusal :=
  sbrMeaning .ls rs1 rs3 s

/-- `sbr.cc`: R378. -/
def execSbrCc (rs1 rs3 : Reg) (s : State) : Outcome State Fault Refusal :=
  sbrMeaning .cc rs1 rs3 s

/-- `sbr.cs`: R379. -/
def execSbrCs (rs1 rs3 : Reg) (s : State) : Outcome State Fault Refusal :=
  sbrMeaning .cs rs1 rs3 s

/-- `sbr.ne`: R380. -/
def execSbrNe (rs1 rs3 : Reg) (s : State) : Outcome State Fault Refusal :=
  sbrMeaning .ne rs1 rs3 s

/-- `sbr.eq`: R381. -/
def execSbrEq (rs1 rs3 : Reg) (s : State) : Outcome State Fault Refusal :=
  sbrMeaning .eq rs1 rs3 s

/-- `sbr.vc`: R382. -/
def execSbrVc (rs1 rs3 : Reg) (s : State) : Outcome State Fault Refusal :=
  sbrMeaning .vc rs1 rs3 s

/-- `sbr.vs`: R383. -/
def execSbrVs (rs1 rs3 : Reg) (s : State) : Outcome State Fault Refusal :=
  sbrMeaning .vs rs1 rs3 s

/-- `sbr.pl`: R384. -/
def execSbrPl (rs1 rs3 : Reg) (s : State) : Outcome State Fault Refusal :=
  sbrMeaning .pl rs1 rs3 s

/-- `sbr.mi`: R385. -/
def execSbrMi (rs1 rs3 : Reg) (s : State) : Outcome State Fault Refusal :=
  sbrMeaning .mi rs1 rs3 s

/-- `sbr.ge`: R386. -/
def execSbrGe (rs1 rs3 : Reg) (s : State) : Outcome State Fault Refusal :=
  sbrMeaning .ge rs1 rs3 s

/-- `sbr.lt`: R387. -/
def execSbrLt (rs1 rs3 : Reg) (s : State) : Outcome State Fault Refusal :=
  sbrMeaning .lt rs1 rs3 s

/-- `sbr.gt`: R388. -/
def execSbrGt (rs1 rs3 : Reg) (s : State) : Outcome State Fault Refusal :=
  sbrMeaning .gt rs1 rs3 s

/-- `sbr.le`: R389. -/
def execSbrLe (rs1 rs3 : Reg) (s : State) : Outcome State Fault Refusal :=
  sbrMeaning .le rs1 rs3 s

end Sys2Proof.Machine
end

