-- ==== Sys2Proof/Machine/Special.lean ====
section
/-! DEFINITION. SLS, SLI and SPLS instructions (48_special_memory.md): one meaning per row. -/

namespace Sys2Proof.Machine

open Host (Outcome)

/-- Rule R341. -/
def slsLoadEffects (rd : Reg) (a : BitVec 21) (s : State) : Except Refusal Effects := do
  let g ← plainRd .sls rd
  loadEffects g .full .zero (slsAddr a, none) s

/-- Rule R342. -/
def slsStoreEffects (rd : Reg) (a : BitVec 21) (s : State) : Except Refusal Effects := do
  let g ← plainRd .sls rd
  storeEffects g .full (slsAddr a, none) s

/-- Rule R350: the constant lands like a loaded value (`SLI_LATE`, log entry 15). -/
def sliEffects (rd : Reg) (k : BitVec 21) : Except Refusal Effects := do
  let g ← plainRd .sli rd
  return { late := some { reg := g, val := k.setWidth 32 } }

/-- Rule R356 with S = 0. -/
def splsLoadEffects (size : Size) (ext : Ext) (rd rs1 : Reg) (m : Mode) (k : BitVec 10) (s : State) :
    Except Refusal Effects := do
  let g ← plainRd .spls rd
  let x ← dispAddress rs1 m (k.signExtend 32) s
  loadEffects g size ext x s

/-- Rule R356 with S = 1. -/
def splsStoreEffects (size : Size) (rd rs1 : Reg) (m : Mode) (k : BitVec 10) (s : State) :
    Except Refusal Effects := do
  let g ← plainRd .spls rd
  let x ← dispAddress rs1 m (k.signExtend 32) s
  storeEffects g size x s

def slsLoad (rd : Reg) (a : BitVec 21) (s : State) : Outcome State Fault Refusal :=
  runEffects [] (slsLoadEffects rd a s) s

def slsStore (rd : Reg) (a : BitVec 21) (s : State) : Outcome State Fault Refusal :=
  runEffects [rd] (slsStoreEffects rd a s) s

def sliMeaning (rd : Reg) (k : BitVec 21) (s : State) : Outcome State Fault Refusal :=
  runEffects [] (sliEffects rd k) s

def splsLoad (size : Size) (ext : Ext) (rd rs1 : Reg) (m : Mode) (k : BitVec 10) (s : State) :
    Outcome State Fault Refusal :=
  runEffects [rs1] (splsLoadEffects size ext rd rs1 m k s) s

def splsStore (size : Size) (rd rs1 : Reg) (m : Mode) (k : BitVec 10) (s : State) :
    Outcome State Fault Refusal :=
  runEffects [rd, rs1] (splsStoreEffects size rd rs1 m k s) s

/-- `sls.ld`: R341. -/
def execSlsLd (rd : Reg) (a : BitVec 21) (s : State) : Outcome State Fault Refusal :=
  slsLoad rd a s

/-- `sls.st`: R342. -/
def execSlsSt (rd : Reg) (a : BitVec 21) (s : State) : Outcome State Fault Refusal :=
  slsStore rd a s

/-- `sli`: R350. -/
def execSli (rd : Reg) (k : BitVec 21) (s : State) : Outcome State Fault Refusal :=
  sliMeaning rd k s

/-- `spls.ldh`: R357. -/
def execSplsLdh (rd rs1 : Reg) (m : Mode) (k : BitVec 10) (s : State) : Outcome State Fault Refusal :=
  splsLoad .half .sign rd rs1 m k s

/-- `spls.ldhu`: R358. -/
def execSplsLdhu (rd rs1 : Reg) (m : Mode) (k : BitVec 10) (s : State) : Outcome State Fault Refusal :=
  splsLoad .half .zero rd rs1 m k s

/-- `spls.ldb`: R359. -/
def execSplsLdb (rd rs1 : Reg) (m : Mode) (k : BitVec 10) (s : State) : Outcome State Fault Refusal :=
  splsLoad .byte .sign rd rs1 m k s

/-- `spls.ldbu`: R360. -/
def execSplsLdbu (rd rs1 : Reg) (m : Mode) (k : BitVec 10) (s : State) : Outcome State Fault Refusal :=
  splsLoad .byte .zero rd rs1 m k s

/-- `spls.sth`: R361. -/
def execSplsSth (rd rs1 : Reg) (m : Mode) (_e : Bool) (k : BitVec 10) (s : State) : Outcome State Fault Refusal :=
  splsStore .half rd rs1 m k s

/-- `spls.stb`: R362. -/
def execSplsStb (rd rs1 : Reg) (m : Mode) (_e : Bool) (k : BitVec 10) (s : State) : Outcome State Fault Refusal :=
  splsStore .byte rd rs1 m k s

end Sys2Proof.Machine
end

