-- ==== Sys2Proof/Machine/Dispatch.lean ====
section
/-! DEFINITION. The meaning of every instruction: one arm per constructor of `Instr`, each a direct call. -/

namespace Sys2Proof.Machine

def exec (i : Instr) (s : State) : Host.Outcome State Fault Refusal :=
  match i with
  | .riAdd rd rs1 f h k => Sys2Proof.Machine.execRiAdd rd rs1 f h k s
  | .riAddc rd rs1 f h k => Sys2Proof.Machine.execRiAddc rd rs1 f h k s
  | .riSub rd rs1 f h k => Sys2Proof.Machine.execRiSub rd rs1 f h k s
  | .riSubb rd rs1 f h k => Sys2Proof.Machine.execRiSubb rd rs1 f h k s
  | .riAnd rd rs1 f h k => Sys2Proof.Machine.execRiAnd rd rs1 f h k s
  | .riOr rd rs1 f h k => Sys2Proof.Machine.execRiOr rd rs1 f h k s
  | .riXor rd rs1 f h k => Sys2Proof.Machine.execRiXor rd rs1 f h k s
  | .riSh rd rs1 f k => Sys2Proof.Machine.execRiSh rd rs1 f k s
  | .riSha rd rs1 f k => Sys2Proof.Machine.execRiSha rd rs1 f k s
  | .rrAdd rd rs1 f rs2 j => Sys2Proof.Machine.execRrAdd rd rs1 f rs2 j s
  | .rrAddc rd rs1 f rs2 j => Sys2Proof.Machine.execRrAddc rd rs1 f rs2 j s
  | .rrSub rd rs1 f rs2 j => Sys2Proof.Machine.execRrSub rd rs1 f rs2 j s
  | .rrSubb rd rs1 f rs2 j => Sys2Proof.Machine.execRrSubb rd rs1 f rs2 j s
  | .rrAnd rd rs1 f rs2 j => Sys2Proof.Machine.execRrAnd rd rs1 f rs2 j s
  | .rrOr rd rs1 f rs2 j => Sys2Proof.Machine.execRrOr rd rs1 f rs2 j s
  | .rrXor rd rs1 f rs2 j => Sys2Proof.Machine.execRrXor rd rs1 f rs2 j s
  | .rrSh rd rs1 f rs2 => Sys2Proof.Machine.execRrSh rd rs1 f rs2 s
  | .rrSha rd rs1 f rs2 => Sys2Proof.Machine.execRrSha rd rs1 f rs2 s
  | .rrrAddAdd rd rs1 f h rs2 rs3 => Sys2Proof.Machine.execRrrAddAdd rd rs1 f h rs2 rs3 s
  | .rrrAddAddc rd rs1 f h rs2 rs3 => Sys2Proof.Machine.execRrrAddAddc rd rs1 f h rs2 rs3 s
  | .rrrAddSub rd rs1 f h rs2 rs3 => Sys2Proof.Machine.execRrrAddSub rd rs1 f h rs2 rs3 s
  | .rrrAddSubb rd rs1 f h rs2 rs3 => Sys2Proof.Machine.execRrrAddSubb rd rs1 f h rs2 rs3 s
  | .rrrAddAnd rd rs1 f h rs2 rs3 => Sys2Proof.Machine.execRrrAddAnd rd rs1 f h rs2 rs3 s
  | .rrrAddOr rd rs1 f h rs2 rs3 => Sys2Proof.Machine.execRrrAddOr rd rs1 f h rs2 rs3 s
  | .rrrAddXor rd rs1 f h rs2 rs3 => Sys2Proof.Machine.execRrrAddXor rd rs1 f h rs2 rs3 s
  | .rrrAddSha rd rs1 f h rs2 rs3 => Sys2Proof.Machine.execRrrAddSha rd rs1 f h rs2 rs3 s
  | .rrrAddcAdd rd rs1 f h rs2 rs3 => Sys2Proof.Machine.execRrrAddcAdd rd rs1 f h rs2 rs3 s
  | .rrrAddcAddc rd rs1 f h rs2 rs3 => Sys2Proof.Machine.execRrrAddcAddc rd rs1 f h rs2 rs3 s
  | .rrrAddcSub rd rs1 f h rs2 rs3 => Sys2Proof.Machine.execRrrAddcSub rd rs1 f h rs2 rs3 s
  | .rrrAddcSubb rd rs1 f h rs2 rs3 => Sys2Proof.Machine.execRrrAddcSubb rd rs1 f h rs2 rs3 s
  | .rrrAddcAnd rd rs1 f h rs2 rs3 => Sys2Proof.Machine.execRrrAddcAnd rd rs1 f h rs2 rs3 s
  | .rrrAddcOr rd rs1 f h rs2 rs3 => Sys2Proof.Machine.execRrrAddcOr rd rs1 f h rs2 rs3 s
  | .rrrAddcXor rd rs1 f h rs2 rs3 => Sys2Proof.Machine.execRrrAddcXor rd rs1 f h rs2 rs3 s
  | .rrrAddcSha rd rs1 f h rs2 rs3 => Sys2Proof.Machine.execRrrAddcSha rd rs1 f h rs2 rs3 s
  | .rrrSubAdd rd rs1 f h rs2 rs3 => Sys2Proof.Machine.execRrrSubAdd rd rs1 f h rs2 rs3 s
  | .rrrSubAddc rd rs1 f h rs2 rs3 => Sys2Proof.Machine.execRrrSubAddc rd rs1 f h rs2 rs3 s
  | .rrrSubSub rd rs1 f h rs2 rs3 => Sys2Proof.Machine.execRrrSubSub rd rs1 f h rs2 rs3 s
  | .rrrSubSubb rd rs1 f h rs2 rs3 => Sys2Proof.Machine.execRrrSubSubb rd rs1 f h rs2 rs3 s
  | .rrrSubAnd rd rs1 f h rs2 rs3 => Sys2Proof.Machine.execRrrSubAnd rd rs1 f h rs2 rs3 s
  | .rrrSubOr rd rs1 f h rs2 rs3 => Sys2Proof.Machine.execRrrSubOr rd rs1 f h rs2 rs3 s
  | .rrrSubXor rd rs1 f h rs2 rs3 => Sys2Proof.Machine.execRrrSubXor rd rs1 f h rs2 rs3 s
  | .rrrSubSha rd rs1 f h rs2 rs3 => Sys2Proof.Machine.execRrrSubSha rd rs1 f h rs2 rs3 s
  | .rrrSubbAdd rd rs1 f h rs2 rs3 => Sys2Proof.Machine.execRrrSubbAdd rd rs1 f h rs2 rs3 s
  | .rrrSubbAddc rd rs1 f h rs2 rs3 => Sys2Proof.Machine.execRrrSubbAddc rd rs1 f h rs2 rs3 s
  | .rrrSubbSub rd rs1 f h rs2 rs3 => Sys2Proof.Machine.execRrrSubbSub rd rs1 f h rs2 rs3 s
  | .rrrSubbSubb rd rs1 f h rs2 rs3 => Sys2Proof.Machine.execRrrSubbSubb rd rs1 f h rs2 rs3 s
  | .rrrSubbAnd rd rs1 f h rs2 rs3 => Sys2Proof.Machine.execRrrSubbAnd rd rs1 f h rs2 rs3 s
  | .rrrSubbOr rd rs1 f h rs2 rs3 => Sys2Proof.Machine.execRrrSubbOr rd rs1 f h rs2 rs3 s
  | .rrrSubbXor rd rs1 f h rs2 rs3 => Sys2Proof.Machine.execRrrSubbXor rd rs1 f h rs2 rs3 s
  | .rrrSubbSha rd rs1 f h rs2 rs3 => Sys2Proof.Machine.execRrrSubbSha rd rs1 f h rs2 rs3 s
  | .rrrAndAdd rd rs1 f h rs2 rs3 => Sys2Proof.Machine.execRrrAndAdd rd rs1 f h rs2 rs3 s
  | .rrrAndAddc rd rs1 f h rs2 rs3 => Sys2Proof.Machine.execRrrAndAddc rd rs1 f h rs2 rs3 s
  | .rrrAndSub rd rs1 f h rs2 rs3 => Sys2Proof.Machine.execRrrAndSub rd rs1 f h rs2 rs3 s
  | .rrrAndSubb rd rs1 f h rs2 rs3 => Sys2Proof.Machine.execRrrAndSubb rd rs1 f h rs2 rs3 s
  | .rrrAndAnd rd rs1 f h rs2 rs3 => Sys2Proof.Machine.execRrrAndAnd rd rs1 f h rs2 rs3 s
  | .rrrAndOr rd rs1 f h rs2 rs3 => Sys2Proof.Machine.execRrrAndOr rd rs1 f h rs2 rs3 s
  | .rrrAndXor rd rs1 f h rs2 rs3 => Sys2Proof.Machine.execRrrAndXor rd rs1 f h rs2 rs3 s
  | .rrrAndSha rd rs1 f h rs2 rs3 => Sys2Proof.Machine.execRrrAndSha rd rs1 f h rs2 rs3 s
  | .rrrOrAdd rd rs1 f h rs2 rs3 => Sys2Proof.Machine.execRrrOrAdd rd rs1 f h rs2 rs3 s
  | .rrrOrAddc rd rs1 f h rs2 rs3 => Sys2Proof.Machine.execRrrOrAddc rd rs1 f h rs2 rs3 s
  | .rrrOrSub rd rs1 f h rs2 rs3 => Sys2Proof.Machine.execRrrOrSub rd rs1 f h rs2 rs3 s
  | .rrrOrSubb rd rs1 f h rs2 rs3 => Sys2Proof.Machine.execRrrOrSubb rd rs1 f h rs2 rs3 s
  | .rrrOrAnd rd rs1 f h rs2 rs3 => Sys2Proof.Machine.execRrrOrAnd rd rs1 f h rs2 rs3 s
  | .rrrOrOr rd rs1 f h rs2 rs3 => Sys2Proof.Machine.execRrrOrOr rd rs1 f h rs2 rs3 s
  | .rrrOrXor rd rs1 f h rs2 rs3 => Sys2Proof.Machine.execRrrOrXor rd rs1 f h rs2 rs3 s
  | .rrrOrSha rd rs1 f h rs2 rs3 => Sys2Proof.Machine.execRrrOrSha rd rs1 f h rs2 rs3 s
  | .rrrXorAdd rd rs1 f h rs2 rs3 => Sys2Proof.Machine.execRrrXorAdd rd rs1 f h rs2 rs3 s
  | .rrrXorAddc rd rs1 f h rs2 rs3 => Sys2Proof.Machine.execRrrXorAddc rd rs1 f h rs2 rs3 s
  | .rrrXorSub rd rs1 f h rs2 rs3 => Sys2Proof.Machine.execRrrXorSub rd rs1 f h rs2 rs3 s
  | .rrrXorSubb rd rs1 f h rs2 rs3 => Sys2Proof.Machine.execRrrXorSubb rd rs1 f h rs2 rs3 s
  | .rrrXorAnd rd rs1 f h rs2 rs3 => Sys2Proof.Machine.execRrrXorAnd rd rs1 f h rs2 rs3 s
  | .rrrXorOr rd rs1 f h rs2 rs3 => Sys2Proof.Machine.execRrrXorOr rd rs1 f h rs2 rs3 s
  | .rrrXorXor rd rs1 f h rs2 rs3 => Sys2Proof.Machine.execRrrXorXor rd rs1 f h rs2 rs3 s
  | .rrrXorSha rd rs1 f h rs2 rs3 => Sys2Proof.Machine.execRrrXorSha rd rs1 f h rs2 rs3 s
  | .rrrShAdd rd rs1 f rs2 rs3 => Sys2Proof.Machine.execRrrShAdd rd rs1 f rs2 rs3 s
  | .rrrShAddc rd rs1 f rs2 rs3 => Sys2Proof.Machine.execRrrShAddc rd rs1 f rs2 rs3 s
  | .rrrShSub rd rs1 f rs2 rs3 => Sys2Proof.Machine.execRrrShSub rd rs1 f rs2 rs3 s
  | .rrrShSubb rd rs1 f rs2 rs3 => Sys2Proof.Machine.execRrrShSubb rd rs1 f rs2 rs3 s
  | .rrrShAnd rd rs1 f rs2 rs3 => Sys2Proof.Machine.execRrrShAnd rd rs1 f rs2 rs3 s
  | .rrrShOr rd rs1 f rs2 rs3 => Sys2Proof.Machine.execRrrShOr rd rs1 f rs2 rs3 s
  | .rrrShXor rd rs1 f rs2 rs3 => Sys2Proof.Machine.execRrrShXor rd rs1 f rs2 rs3 s
  | .rrrShSha rd rs1 f rs2 rs3 => Sys2Proof.Machine.execRrrShSha rd rs1 f rs2 rs3 s
  | .rrrShaAdd rd rs1 f rs2 rs3 => Sys2Proof.Machine.execRrrShaAdd rd rs1 f rs2 rs3 s
  | .rrrShaAddc rd rs1 f rs2 rs3 => Sys2Proof.Machine.execRrrShaAddc rd rs1 f rs2 rs3 s
  | .rrrShaSub rd rs1 f rs2 rs3 => Sys2Proof.Machine.execRrrShaSub rd rs1 f rs2 rs3 s
  | .rrrShaSubb rd rs1 f rs2 rs3 => Sys2Proof.Machine.execRrrShaSubb rd rs1 f rs2 rs3 s
  | .rrrShaAnd rd rs1 f rs2 rs3 => Sys2Proof.Machine.execRrrShaAnd rd rs1 f rs2 rs3 s
  | .rrrShaOr rd rs1 f rs2 rs3 => Sys2Proof.Machine.execRrrShaOr rd rs1 f rs2 rs3 s
  | .rrrShaXor rd rs1 f rs2 rs3 => Sys2Proof.Machine.execRrrShaXor rd rs1 f rs2 rs3 s
  | .rrrShaSha rd rs1 f rs2 rs3 => Sys2Proof.Machine.execRrrShaSha rd rs1 f rs2 rs3 s
  | .rmLd rd rs1 m k => Sys2Proof.Machine.execRmLd rd rs1 m k s
  | .rmSt rd rs1 m k => Sys2Proof.Machine.execRmSt rd rs1 m k s
  | .rrmLdAdd rd rs1 m rs2 j e => Sys2Proof.Machine.execRrmLdAdd rd rs1 m rs2 j e s
  | .rrmLdhAdd rd rs1 m rs2 j => Sys2Proof.Machine.execRrmLdhAdd rd rs1 m rs2 j s
  | .rrmLdhuAdd rd rs1 m rs2 j => Sys2Proof.Machine.execRrmLdhuAdd rd rs1 m rs2 j s
  | .rrmLdbAdd rd rs1 m rs2 j => Sys2Proof.Machine.execRrmLdbAdd rd rs1 m rs2 j s
  | .rrmLdbuAdd rd rs1 m rs2 j => Sys2Proof.Machine.execRrmLdbuAdd rd rs1 m rs2 j s
  | .rrmStAdd rd rs1 m rs2 j e => Sys2Proof.Machine.execRrmStAdd rd rs1 m rs2 j e s
  | .rrmSthAdd rd rs1 m rs2 j e => Sys2Proof.Machine.execRrmSthAdd rd rs1 m rs2 j e s
  | .rrmStbAdd rd rs1 m rs2 j e => Sys2Proof.Machine.execRrmStbAdd rd rs1 m rs2 j e s
  | .rrmLdAddc rd rs1 m rs2 j e => Sys2Proof.Machine.execRrmLdAddc rd rs1 m rs2 j e s
  | .rrmLdhAddc rd rs1 m rs2 j => Sys2Proof.Machine.execRrmLdhAddc rd rs1 m rs2 j s
  | .rrmLdhuAddc rd rs1 m rs2 j => Sys2Proof.Machine.execRrmLdhuAddc rd rs1 m rs2 j s
  | .rrmLdbAddc rd rs1 m rs2 j => Sys2Proof.Machine.execRrmLdbAddc rd rs1 m rs2 j s
  | .rrmLdbuAddc rd rs1 m rs2 j => Sys2Proof.Machine.execRrmLdbuAddc rd rs1 m rs2 j s
  | .rrmStAddc rd rs1 m rs2 j e => Sys2Proof.Machine.execRrmStAddc rd rs1 m rs2 j e s
  | .rrmSthAddc rd rs1 m rs2 j e => Sys2Proof.Machine.execRrmSthAddc rd rs1 m rs2 j e s
  | .rrmStbAddc rd rs1 m rs2 j e => Sys2Proof.Machine.execRrmStbAddc rd rs1 m rs2 j e s
  | .rrmLdSub rd rs1 m rs2 j e => Sys2Proof.Machine.execRrmLdSub rd rs1 m rs2 j e s
  | .rrmLdhSub rd rs1 m rs2 j => Sys2Proof.Machine.execRrmLdhSub rd rs1 m rs2 j s
  | .rrmLdhuSub rd rs1 m rs2 j => Sys2Proof.Machine.execRrmLdhuSub rd rs1 m rs2 j s
  | .rrmLdbSub rd rs1 m rs2 j => Sys2Proof.Machine.execRrmLdbSub rd rs1 m rs2 j s
  | .rrmLdbuSub rd rs1 m rs2 j => Sys2Proof.Machine.execRrmLdbuSub rd rs1 m rs2 j s
  | .rrmStSub rd rs1 m rs2 j e => Sys2Proof.Machine.execRrmStSub rd rs1 m rs2 j e s
  | .rrmSthSub rd rs1 m rs2 j e => Sys2Proof.Machine.execRrmSthSub rd rs1 m rs2 j e s
  | .rrmStbSub rd rs1 m rs2 j e => Sys2Proof.Machine.execRrmStbSub rd rs1 m rs2 j e s
  | .rrmLdSubb rd rs1 m rs2 j e => Sys2Proof.Machine.execRrmLdSubb rd rs1 m rs2 j e s
  | .rrmLdhSubb rd rs1 m rs2 j => Sys2Proof.Machine.execRrmLdhSubb rd rs1 m rs2 j s
  | .rrmLdhuSubb rd rs1 m rs2 j => Sys2Proof.Machine.execRrmLdhuSubb rd rs1 m rs2 j s
  | .rrmLdbSubb rd rs1 m rs2 j => Sys2Proof.Machine.execRrmLdbSubb rd rs1 m rs2 j s
  | .rrmLdbuSubb rd rs1 m rs2 j => Sys2Proof.Machine.execRrmLdbuSubb rd rs1 m rs2 j s
  | .rrmStSubb rd rs1 m rs2 j e => Sys2Proof.Machine.execRrmStSubb rd rs1 m rs2 j e s
  | .rrmSthSubb rd rs1 m rs2 j e => Sys2Proof.Machine.execRrmSthSubb rd rs1 m rs2 j e s
  | .rrmStbSubb rd rs1 m rs2 j e => Sys2Proof.Machine.execRrmStbSubb rd rs1 m rs2 j e s
  | .rrmLdAnd rd rs1 m rs2 j e => Sys2Proof.Machine.execRrmLdAnd rd rs1 m rs2 j e s
  | .rrmLdhAnd rd rs1 m rs2 j => Sys2Proof.Machine.execRrmLdhAnd rd rs1 m rs2 j s
  | .rrmLdhuAnd rd rs1 m rs2 j => Sys2Proof.Machine.execRrmLdhuAnd rd rs1 m rs2 j s
  | .rrmLdbAnd rd rs1 m rs2 j => Sys2Proof.Machine.execRrmLdbAnd rd rs1 m rs2 j s
  | .rrmLdbuAnd rd rs1 m rs2 j => Sys2Proof.Machine.execRrmLdbuAnd rd rs1 m rs2 j s
  | .rrmStAnd rd rs1 m rs2 j e => Sys2Proof.Machine.execRrmStAnd rd rs1 m rs2 j e s
  | .rrmSthAnd rd rs1 m rs2 j e => Sys2Proof.Machine.execRrmSthAnd rd rs1 m rs2 j e s
  | .rrmStbAnd rd rs1 m rs2 j e => Sys2Proof.Machine.execRrmStbAnd rd rs1 m rs2 j e s
  | .rrmLdOr rd rs1 m rs2 j e => Sys2Proof.Machine.execRrmLdOr rd rs1 m rs2 j e s
  | .rrmLdhOr rd rs1 m rs2 j => Sys2Proof.Machine.execRrmLdhOr rd rs1 m rs2 j s
  | .rrmLdhuOr rd rs1 m rs2 j => Sys2Proof.Machine.execRrmLdhuOr rd rs1 m rs2 j s
  | .rrmLdbOr rd rs1 m rs2 j => Sys2Proof.Machine.execRrmLdbOr rd rs1 m rs2 j s
  | .rrmLdbuOr rd rs1 m rs2 j => Sys2Proof.Machine.execRrmLdbuOr rd rs1 m rs2 j s
  | .rrmStOr rd rs1 m rs2 j e => Sys2Proof.Machine.execRrmStOr rd rs1 m rs2 j e s
  | .rrmSthOr rd rs1 m rs2 j e => Sys2Proof.Machine.execRrmSthOr rd rs1 m rs2 j e s
  | .rrmStbOr rd rs1 m rs2 j e => Sys2Proof.Machine.execRrmStbOr rd rs1 m rs2 j e s
  | .rrmLdXor rd rs1 m rs2 j e => Sys2Proof.Machine.execRrmLdXor rd rs1 m rs2 j e s
  | .rrmLdhXor rd rs1 m rs2 j => Sys2Proof.Machine.execRrmLdhXor rd rs1 m rs2 j s
  | .rrmLdhuXor rd rs1 m rs2 j => Sys2Proof.Machine.execRrmLdhuXor rd rs1 m rs2 j s
  | .rrmLdbXor rd rs1 m rs2 j => Sys2Proof.Machine.execRrmLdbXor rd rs1 m rs2 j s
  | .rrmLdbuXor rd rs1 m rs2 j => Sys2Proof.Machine.execRrmLdbuXor rd rs1 m rs2 j s
  | .rrmStXor rd rs1 m rs2 j e => Sys2Proof.Machine.execRrmStXor rd rs1 m rs2 j e s
  | .rrmSthXor rd rs1 m rs2 j e => Sys2Proof.Machine.execRrmSthXor rd rs1 m rs2 j e s
  | .rrmStbXor rd rs1 m rs2 j e => Sys2Proof.Machine.execRrmStbXor rd rs1 m rs2 j e s
  | .rrmLdSh rd rs1 m rs2 yle => Sys2Proof.Machine.execRrmLdSh rd rs1 m rs2 yle s
  | .rrmLdSha rd rs1 m rs2 yle => Sys2Proof.Machine.execRrmLdSha rd rs1 m rs2 yle s
  | .rrmStSh rd rs1 m rs2 yle => Sys2Proof.Machine.execRrmStSh rd rs1 m rs2 yle s
  | .rrmStSha rd rs1 m rs2 yle => Sys2Proof.Machine.execRrmStSha rd rs1 m rs2 yle s
  | .brT k => Sys2Proof.Machine.execBrT k s
  | .brF k => Sys2Proof.Machine.execBrF k s
  | .brHi k => Sys2Proof.Machine.execBrHi k s
  | .brLs k => Sys2Proof.Machine.execBrLs k s
  | .brCc k => Sys2Proof.Machine.execBrCc k s
  | .brCs k => Sys2Proof.Machine.execBrCs k s
  | .brNe k => Sys2Proof.Machine.execBrNe k s
  | .brEq k => Sys2Proof.Machine.execBrEq k s
  | .brVc k => Sys2Proof.Machine.execBrVc k s
  | .brVs k => Sys2Proof.Machine.execBrVs k s
  | .brPl k => Sys2Proof.Machine.execBrPl k s
  | .brMi k => Sys2Proof.Machine.execBrMi k s
  | .brGe k => Sys2Proof.Machine.execBrGe k s
  | .brLt k => Sys2Proof.Machine.execBrLt k s
  | .brGt k => Sys2Proof.Machine.execBrGt k s
  | .brLe k => Sys2Proof.Machine.execBrLe k s
  | .brrT k => Sys2Proof.Machine.execBrrT k s
  | .brrF k => Sys2Proof.Machine.execBrrF k s
  | .brrHi k => Sys2Proof.Machine.execBrrHi k s
  | .brrLs k => Sys2Proof.Machine.execBrrLs k s
  | .brrCc k => Sys2Proof.Machine.execBrrCc k s
  | .brrCs k => Sys2Proof.Machine.execBrrCs k s
  | .brrNe k => Sys2Proof.Machine.execBrrNe k s
  | .brrEq k => Sys2Proof.Machine.execBrrEq k s
  | .brrVc k => Sys2Proof.Machine.execBrrVc k s
  | .brrVs k => Sys2Proof.Machine.execBrrVs k s
  | .brrPl k => Sys2Proof.Machine.execBrrPl k s
  | .brrMi k => Sys2Proof.Machine.execBrrMi k s
  | .brrGe k => Sys2Proof.Machine.execBrrGe k s
  | .brrLt k => Sys2Proof.Machine.execBrrLt k s
  | .brrGt k => Sys2Proof.Machine.execBrrGt k s
  | .brrLe k => Sys2Proof.Machine.execBrrLe k s
  | .punt => Sys2Proof.Machine.execPunt s
  | .slsLd rd a => Sys2Proof.Machine.execSlsLd rd a s
  | .slsSt rd a => Sys2Proof.Machine.execSlsSt rd a s
  | .sli rd k => Sys2Proof.Machine.execSli rd k s
  | .splsLdh rd rs1 m k => Sys2Proof.Machine.execSplsLdh rd rs1 m k s
  | .splsLdhu rd rs1 m k => Sys2Proof.Machine.execSplsLdhu rd rs1 m k s
  | .splsLdb rd rs1 m k => Sys2Proof.Machine.execSplsLdb rd rs1 m k s
  | .splsLdbu rd rs1 m k => Sys2Proof.Machine.execSplsLdbu rd rs1 m k s
  | .splsSth rd rs1 m e k => Sys2Proof.Machine.execSplsSth rd rs1 m e k s
  | .splsStb rd rs1 m e k => Sys2Proof.Machine.execSplsStb rd rs1 m e k s
  | .sbrT rs1 rs3 => Sys2Proof.Machine.execSbrT rs1 rs3 s
  | .sbrF rs1 rs3 => Sys2Proof.Machine.execSbrF rs1 rs3 s
  | .sbrHi rs1 rs3 => Sys2Proof.Machine.execSbrHi rs1 rs3 s
  | .sbrLs rs1 rs3 => Sys2Proof.Machine.execSbrLs rs1 rs3 s
  | .sbrCc rs1 rs3 => Sys2Proof.Machine.execSbrCc rs1 rs3 s
  | .sbrCs rs1 rs3 => Sys2Proof.Machine.execSbrCs rs1 rs3 s
  | .sbrNe rs1 rs3 => Sys2Proof.Machine.execSbrNe rs1 rs3 s
  | .sbrEq rs1 rs3 => Sys2Proof.Machine.execSbrEq rs1 rs3 s
  | .sbrVc rs1 rs3 => Sys2Proof.Machine.execSbrVc rs1 rs3 s
  | .sbrVs rs1 rs3 => Sys2Proof.Machine.execSbrVs rs1 rs3 s
  | .sbrPl rs1 rs3 => Sys2Proof.Machine.execSbrPl rs1 rs3 s
  | .sbrMi rs1 rs3 => Sys2Proof.Machine.execSbrMi rs1 rs3 s
  | .sbrGe rs1 rs3 => Sys2Proof.Machine.execSbrGe rs1 rs3 s
  | .sbrLt rs1 rs3 => Sys2Proof.Machine.execSbrLt rs1 rs3 s
  | .sbrGt rs1 rs3 => Sys2Proof.Machine.execSbrGt rs1 rs3 s
  | .sbrLe rs1 rs3 => Sys2Proof.Machine.execSbrLe rs1 rs3 s

end Sys2Proof.Machine
end

