-- ==== Sys2Proof/WellFormed.lean ====
section
/-! DEFINITION. Static legality of an instruction: what its own word already makes the spec refuse, in the
order of 60_exceptions.md R394: the register restrictions of 10_state.md R23, R24, R29, and an RI shift
whose constant is outside -31 .. 31 (30_encoding.md R116 d, 41_ri.md R180). Every field is of its exact
width, so nothing else can be wrong with an instruction. -/

namespace Sys2Proof

/-- A static violation, named as 60_exceptions.md R392 names it. -/
inductive Violation where
  | restrictedRd (fmt : Format) (rd : Reg)
  | isrAccess (field : RegField)
  | restrictedBase (r : Reg)
  | shiftRange (n : Int)
  deriving DecidableEq, Repr

/-- R23: register 2 or 31 as the Rd of a format that forbids both. -/
def rdViolation (fmt : Format) (rd : Reg) : Option Violation :=
  if rd = 2#5 ∨ rd = 31#5 then some (.restrictedRd fmt rd) else none

/-- R24: register 31 in a register field that the instruction uses. -/
def isrViolation (field : RegField) (r : Reg) : Option Violation :=
  if r = 31#5 then some (.isrAccess field) else none

/-- R29: a base update of register 2. -/
def baseViolation (m : Mode) (rs1 : Reg) : Option Violation :=
  if (m = .post ∨ m = .pre) ∧ rs1 = 2#5 then some (.restrictedBase rs1) else none

/-- R116 d: the constant amount of an RI shift. -/
def amountViolation (op : OpH) (k : BitVec 16) : Option Violation :=
  match op with
  | .plain _ _ => none
  | _ => if k.toInt < -31 ∨ 31 < k.toInt then some (.shiftRange k.toInt) else none

/-- The first static violation of an instruction, in the order of R394. -/
def Form.violation : Form → Option Violation
  | .ri op rd rs1 _ k =>
      (isrViolation .rd rd).or ((isrViolation .rs1 rs1).or (amountViolation op k))
  | .rr _ rd rs1 _ rs2 =>
      (isrViolation .rd rd).or ((isrViolation .rs1 rs1).or (isrViolation .rs2 rs2))
  | .rrr _ _ rd rs1 _ rs2 rs3 =>
      (rdViolation .rrr rd).or ((isrViolation .rs1 rs1).or ((isrViolation .rs2 rs2).or
        (isrViolation .rs3 rs3)))
  | .rm _ rd rs1 m _ => (rdViolation .rm rd).or ((isrViolation .rs1 rs1).or (baseViolation m rs1))
  | .rrm _ rd rs1 m rs2 =>
      (rdViolation .rrm rd).or ((isrViolation .rs1 rs1).or ((isrViolation .rs2 rs2).or
        (baseViolation m rs1)))
  | .br _ _ _ => none
  | .punt => none
  | .sls _ rd _ => rdViolation .sls rd
  | .sli rd _ => rdViolation .sli rd
  | .spls _ rd rs1 m _ =>
      (rdViolation .spls rd).or ((isrViolation .rs1 rs1).or (baseViolation m rs1))
  | .sbr _ rs1 rs3 => (isrViolation .rs1 rs1).or (isrViolation .rs3 rs3)

def Instr.violation (i : Instr) : Option Violation := i.form.violation

/-- An instruction that its own word does not make the spec refuse. -/
def Instr.wellFormed (i : Instr) : Bool := i.violation.isNone

end Sys2Proof
end

