-- ==== Sys2Proof/Safety.lean ====
section
/-! DEFINITION. The terms claims are made in: what an instruction is said to read, write and access by the
spec's own words, the state a plain step ends in, the invariant, and a run that does not stop. -/

namespace Sys2Proof.Machine

/-! ## The operations of the formats, as the encoding rules give them -/

/-- AAA and H as an operation (30_encoding.md R101, R103). -/
def baseAlu : BaseOp → AluOp
  | .add => .add | .addc => .addc | .sub => .sub | .subb => .subb | .and => .and | .or => .or | .xor => .xor

def opHAlu : OpH → AluOp
  | .plain op _ => baseAlu op | .sh => .sh | .sha => .sha

def op1Alu : Op1 → AluOp
  | .base op => baseAlu op | .sha => .sha

def opJAlu : OpJ → AluOp
  | .plain op _ => baseAlu op | .sh => .sh | .sha => .sha

/-- The right operand of RI (30_encoding.md R112). -/
def riConst (op : OpH) (k : BitVec 16) : Word :=
  match op with
  | .plain .and h => if h then k ++ 0xFFFF#16 else 0xFFFF#16 ++ k
  | .plain _ h => if h then k ++ 0x0000#16 else 0x0000#16 ++ k
  | _ => k.signExtend 32

/-- The address operation of RRM (45_rrm.md R261). -/
def rrmAlu : RrmForm → AluOp
  | .plain _ op _ => baseAlu op
  | .shifted _ arith _ => if arith then .sha else .sh

/-- The size of an RRM access (45_rrm.md R262). -/
def rrmSize : RrmForm → Size
  | .plain (.ld _) _ _ => .full | .plain .ldh _ _ => .half | .plain .ldhu _ _ => .half
  | .plain .ldb _ _ => .byte | .plain .ldbu _ _ => .byte | .plain (.st _) _ _ => .full
  | .plain (.sth _) _ _ => .half | .plain (.stb _) _ _ => .byte
  | .shifted _ _ _ => .full

/-- The extension of an RRM load (45_rrm.md R262); of no account for a fullword. -/
def rrmExt : RrmForm → Ext
  | .plain .ldh _ _ => .sign | .plain .ldb _ _ => .sign
  | .plain _ _ _ => .zero | .shifted _ _ _ => .zero

/-- The size and the extension of an SPLS access (48_special_memory.md R355). -/
def splsSize : SplsAcc → Size
  | .ldh => .half | .ldhu => .half | .sth _ => .half | .ldb => .byte | .ldbu => .byte | .stb _ => .byte

def splsExt : SplsAcc → Ext
  | .ldh => .sign | .ldb => .sign | .ldhu => .zero | .ldbu => .zero | .sth _ => .zero | .stb _ => .zero

/-! ## What an instruction reads, writes and accesses -/

/-- `x[r]` of a register that may be read: a register with storage, or register 2 (10_state.md R27). Of no
account for register 31. -/
def regValue (r : Reg) (s : State) : Word :=
  match gpr? r with
  | some g => readReg s g
  | none => pcRead s

/-- The mode updates the base register (44_rm.md R241). -/
def updatesBase (m : Mode) : Bool :=
  match m with
  | .post => true | .pre => true | .base => false | .off => false

/-- The effective address of a mode, by the same function as the meanings (44_rm.md R241). -/
def modeEa (m : Mode) (a t : Word) : Word := (addrMode m none a t).1

/-- The state with the base register of a mode updated to `t`. -/
def withBase (m : Mode) (rs1 : Reg) (t : Word) (s : State) : State :=
  match updatesBase m, gpr? rs1 with
  | true, some g => setReg g t s
  | _, _ => s

/-- The register fields that the pseudocode of an instruction reads, or writes at its time 2, in the order of the
word (R25); the Rd of a load is accessed when its value lands, the Rs2 of RRM in mode base not at all. That these
are the accesses is the model's choice (DESIGN CHOICE, log entry 10). -/
def accessed (i : Instr) : List Reg :=
  match i.form with
  | .ri _ rd rs1 _ _ => [rd, rs1]
  | .rr _ rd rs1 _ rs2 => [rd, rs1, rs2]
  | .rrr _ _ rd rs1 _ rs2 rs3 => [rd, rs1, rs2, rs3]
  | .rm store rd rs1 _ _ => if store then [rd, rs1] else [rs1]
  | .rrm x rd rs1 m rs2 => if x.s then rd :: rrmReads rs1 m rs2 else rrmReads rs1 m rs2
  | .br _ _ _ => []
  | .punt => []
  | .sls store rd _ => if store then [rd] else []
  | .sli _ _ => []
  | .spls acc rd rs1 _ _ => if acc.s then [rd, rs1] else [rs1]
  | .sbr _ rs1 rs3 => [rs1, rs3]

/-- The end of a step of an instruction: `t`, but for the registers and the flags where a register that it
accesses has a side effect (`SPECIAL_REGS`; at the spec's default none has one). -/
def settled (i : Instr) (s t : State) : State := afterAccess (accessed i) s t

/-- No register that a step of the instruction accesses, and none that a late value lands on, has a side
effect. -/
def quiet (i : Instr) (s : State) : Prop := touches s (accessed i) = false

/-- The register an instruction writes at its time 2 (10_state.md R37): Rd of RI, RR, RRR, or an updated base
of RM, RRM, SPLS; none for the pc. -/
def writeReg? (i : Instr) : Option Gpr :=
  match i.form with
  | .ri _ rd _ _ _ => gpr? rd
  | .rr _ rd _ _ _ => gpr? rd
  | .rrr _ _ rd _ _ _ _ => gpr? rd
  | .rm _ _ rs1 m _ => if updatesBase m then gpr? rs1 else none
  | .rrm _ _ rs1 m _ => if updatesBase m then gpr? rs1 else none
  | .spls _ _ rs1 m _ => if updatesBase m then gpr? rs1 else none
  | .br _ _ _ => none
  | .punt => none
  | .sls _ _ _ => none
  | .sli _ _ => none
  | .sbr _ _ _ => none

/-- The register that a load or SLI writes late (10_state.md R36). -/
def lateReg? (i : Instr) : Option Gpr :=
  match i.form with
  | .rm store rd _ _ _ => if store then none else gpr? rd
  | .rrm x rd _ _ _ => if x.s then none else gpr? rd
  | .sls store rd _ => if store then none else gpr? rd
  | .sli rd _ => gpr? rd
  | .spls acc rd _ _ _ => if acc.s then none else gpr? rd
  | .ri _ _ _ _ _ => none
  | .rr _ _ _ _ _ => none
  | .rrr _ _ _ _ _ _ _ => none
  | .br _ _ _ => none
  | .punt => none
  | .sbr _ _ _ => none

/-- The instruction stores to memory (20_memory.md R61). -/
def isStore (i : Instr) : Bool :=
  match i.form with
  | .rm store _ _ _ _ => store
  | .rrm x _ _ _ _ => x.s
  | .sls store _ _ => store
  | .spls acc _ _ _ _ => acc.s
  | .ri _ _ _ _ _ => false
  | .rr _ _ _ _ _ => false
  | .rrr _ _ _ _ _ _ _ => false
  | .br _ _ _ => false
  | .punt => false
  | .sli _ _ => false
  | .sbr _ _ _ => false

/-- The instruction is a PUNT. -/
def isPunt (i : Instr) : Bool := i.form == .punt

/-- The F bit of an instruction that has one (10_state.md R34). -/
def setsFlags (i : Instr) : Bool :=
  match i.form with
  | .ri _ _ _ f _ => f
  | .rr _ _ _ f _ => f
  | .rrr _ _ _ _ f _ _ => f
  | .rm _ _ _ _ _ => false
  | .rrm _ _ _ _ _ => false
  | .br _ _ _ => false
  | .punt => false
  | .sls _ _ _ => false
  | .sli _ _ => false
  | .spls _ _ _ _ _ => false
  | .sbr _ _ _ => false

/-- The address and size of the data access of a load or store: computed from the registers as they are
before the landing; none where there is no access or its shift amount is out of range. -/
def dataAccess (i : Instr) (s : State) : Option (Word × Nat) :=
  match i.form with
  | .rm _ _ rs1 m k => some (modeEa m (regValue rs1 s) (regValue rs1 s + k.signExtend 32), 4)
  | .rrm x _ rs1 m rs2 =>
    if m = .base then some (regValue rs1 s, (rrmSize x).bytes)
    else
      match alu (rrmAlu x) (regValue rs1 s) (regValue rs2 s) s.flags.c with
      | some o => some (modeEa m (regValue rs1 s) o.r, (rrmSize x).bytes)
      | none => none
  | .sls _ _ a => some (slsAddr a, 4)
  | .spls acc _ rs1 m k =>
    some (modeEa m (regValue rs1 s) (regValue rs1 s + k.signExtend 32), (splsSize acc).bytes)
  | .ri _ _ _ _ _ => none
  | .rr _ _ _ _ _ => none
  | .rrr _ _ _ _ _ _ _ => none
  | .br _ _ _ => none
  | .punt => none
  | .sli _ _ => none
  | .sbr _ _ _ => none

/-! ## The end of a step -/

/-- A step that does nothing of its own: the late value lands, the slot empties, the machine advances
(10_state.md R31, R36). -/
def fallThrough (s : State) : State :=
  { s with
    regs := (landed s).regs
    flags := (landed s).flags
    lp := none
    cia := s.nia
    nia := s.nia + 4#32
    js := false }

/-- No value is about to land on this register (10_state.md R37). -/
def freeToWrite (g : Gpr) (s : State) : Prop := ∀ l, s.lp = some l → l.reg ≠ g

/-- With `FLAGS_ALIAS`: an instruction with this F bit and this destination register does not write the flags'
register twice, and no value is about to land on it when F is 1 (log entry 10). Always so at the spec's
default. -/
def freeFlags (f : Bool) (d : Option Gpr) (s : State) : Prop :=
  f = true → (∀ g, d = some g → flagsIn s.params g = none) ∧ ∀ l, s.lp = some l → flagsIn s.params l.reg = none

/-- The register that a mode updates, if any, may be updated: it is not the pc and no value is about to land
on it. -/
def baseFree (m : Mode) (rs1 : Reg) (s : State) : Prop :=
  updatesBase m = true → rs1 ≠ 2#5 ∧ ∀ g, gpr? rs1 = some g → freeToWrite g s

/-- The address of the `j`-th byte from `a`, modulo 2^32. -/
def byteAddr (a : Word) (j : Nat) : Nat := (a + BitVec.ofNat 32 j).toNat

/-- Between `s` and `t` the lowest `n` bytes of `v` were stored at `a`: those bytes hold them in the machine's
byte order, every other byte reads as before, and W has just those addresses more (20_memory.md R64, R67). -/
structure StoredAt (s t : State) (a : Word) (n : Nat) (v : Word) : Prop where
  bytes : Memory.readBytes t.mem a n = bytesOf s.params.endian n v
  frame : ∀ x, (∀ j, j < n → x ≠ byteAddr a j) → Memory.readByte t.mem x = Memory.readByte s.mem x
  more : ∀ x, x ∈ t.stored ↔ x ∈ s.stored ∨ ∃ j, j < n ∧ x = byteAddr a j

/-- The refusal a static violation ends in (60_exceptions.md R392). -/
def violationRefusal : Violation → Refusal
  | .restrictedRd fmt rd => .restrictedRd fmt rd
  | .isrAccess field => .isrAccess field
  | .restrictedBase r => .restrictedBase r
  | .shiftRange n => .shiftRange n

/-! ## Invariants and runs -/

/-- What every step keeps: instruction addresses are multiples of 4 (10_state.md R30), memory and W are in
their canonical forms. -/
structure Inv (s : State) : Prop where
  cia : aligned4 s.cia = true
  nia : aligned4 s.nia = true
  mem : Memory.wf s.mem = true
  stored : storedWf s.stored = true

/-- The next step has a next state: no reason of 60_exceptions.md R392 arises. -/
def Goes (s : State) : Prop := ∃ t, step s = .next t

/-- `n` steps from `s` without a stop end in `t` (a run of 60_exceptions.md R393). -/
inductive Run : Nat → State → State → Prop where
  | here (s : State) : Run 0 s s
  | next (n : Nat) (s u t : State) (h : step s = .next u) (r : Run n u t) : Run (n + 1) s t

end Sys2Proof.Machine
end

