-- ==== Sys2Proof/Certificates/Slice0/Obligations.lean ====
section
/-! DEFINITION. The statements about the model, from the numbered rules of spec/. Every statement is about one
operation or one step of the machine; none about a program. -/

section

open Sys2Proof Sys2Proof.Machine

/-! ## Encoding -/

/-- Decoding the word of an instruction gives it back, with every field at every value its encoding admits
(30_encoding.md R101 to R116); where the chip has no SBR, of every instruction that is no SBR (the spec's own
decision D39). -/
def Obligations.DecodeEncode : Prop :=
  ∀ (hasSbr : Bool) (i : Instr), (hasSbr = true ∨ ∀ c rs1 rs3, i.form ≠ .sbr c rs1 rs3) →
    decode hasSbr (encode i) = .ok i

/-- A word that decodes is the word of the instruction it decodes to: no bit of it is dropped, the ignored
fields of R117 included. -/
def Obligations.EncodeDecode : Prop :=
  ∀ (hasSbr : Bool) (w : Word) (i : Instr), decode hasSbr w = .ok i → encode i = w

/-- Words of the spec's examples, one or more of each format, decode to the instructions they stand for. -/
def Obligations.SpecWordsDecode : Prop :=
  decode true 0x00000000#32 = .ok (.riAdd 0#5 0#5 false false 0#16) ∧
  decode true 0x029B1234#32 = .ok (.riAdd 5#5 6#5 true true 0x1234#16) ∧
  decode true 0x729AFFFC#32 = .ok (.riSh 5#5 6#5 true 0xFFFC#16) ∧
  decode true 0xC01A3A00#32 = .ok (.rrSub 0#5 6#5 true 7#5 0#5) ∧
  decode true 0xC29A3FC0#32 = .ok (.rrSha 5#5 6#5 true 7#5) ∧
  decode true 0xD29A3A44#32 = .ok (.rrrSubAnd 5#5 6#5 true false 7#5 8#5) ∧
  decode true 0x929BFFFC#32 = .ok (.rmSt 5#5 6#5 .pre 0xFFFC#16) ∧
  decode true 0xB2993A00#32 = .ok (.rrmSthSub 5#5 6#5 .post 7#5 0#5 false) ∧
  decode true 0xE6001011#32 = .ok (.brEq 0x404#23) ∧
  decode true 0xE1000002#32 = .ok (.brrT 0x400000#23) ∧
  decode true 0xF003FF47#32 = .ok .punt ∧
  decode true 0xF2852346#32 = .ok (.slsSt 5#5 0x12346#21) ∧
  decode true 0xF2FEFFFF#32 = .ok (.sli 5#5 0x1FFFFF#21) ∧
  decode true 0xF29B5E00#32 = .ok (.splsLdbu 5#5 6#5 .pre 0x200#10) ∧
  decode true 0xFC2BC059#32 = .ok (.sbrLt 10#5 11#5)

/-- Exactly the words of 30_encoding.md section 5 (a), (b), (c), and of 49_sbr.md section 1 where the chip has
no SBR, are refused as reserved encodings (the spec's own decisions D11 and D39). -/
def Obligations.ReservedEncodings : Prop :=
  ∀ (hasSbr : Bool) (w : Word), decode hasSbr w = .error (.reservedEncoding w) ↔
    (fld w 28 4 = 12#4 ∧ fld w 8 3 = 7#3 ∧ bit w 7 = false) ∨
    (fld w 29 3 = 5#3 ∧ fld w 8 3 = 7#3 ∧ bit w 7 = false) ∨
    (fld w 29 3 = 5#3 ∧ fld w 8 3 ≠ 7#3 ∧ fld w 1 2 = 3#2) ∨
    (fld w 28 4 = 15#4 ∧ fld w 15 3 = 7#3 ∧
      ¬ (fld w 8 7 = 127#7 ∧ bit w 6 = true ∧ fld w 0 3 = 7#3) ∧
      ¬ (fld w 8 7 = 64#7 ∧ fld w 1 2 = 0#2 ∧ hasSbr = true))

/-- A word that selects an instruction and has a reserved bit set is refused, and no other word is
(30_encoding.md section 5, the spec's own decision D11). -/
def Obligations.ReservedBitsRefused : Prop :=
  ∀ (hasSbr : Bool) (w : Word), decode hasSbr w ≠ .error (.reservedEncoding w) →
    (decode hasSbr w = .error (.reservedBits w) ↔
      (fld w 28 4 = 12#4 ∧ (bit w 16 = true ∨ fld w 0 3 ≠ 0#3 ∨ (fld w 8 3 = 7#3 ∧ fld w 3 3 ≠ 0#3))) ∨
      (fld w 29 3 = 5#3 ∧ fld w 8 3 = 7#3 ∧ fld w 3 3 ≠ 0#3) ∨
      (fld w 28 4 = 15#4 ∧ fld w 8 10 = 1023#10 ∧
        (fld w 18 10 ≠ 0#10 ∨ bit w 7 = true ∨ fld w 3 3 ≠ 0#3)) ∨
      (fld w 28 4 = 15#4 ∧ fld w 8 10 = 960#10 ∧ fld w 23 2 ≠ 0#2))

/-! ## The step -/

/-- When the four bytes at `cia` exist, were not stored to and decode to an instruction, the step is that
instruction's meaning at that state (10_state.md R40 steps 1 to 4). The step adds nothing around it: the
advance is inside the meaning. -/
def Obligations.StepRunsDecoded : Prop :=
  ∀ (s : State) (i : Instr), memValid s.params s.cia 4 = true → anyStored s.stored s.cia 4 = false →
    decodeBytes s.params.endian s.params.hasSbr (Memory.readBytes s.mem s.cia 4) = .ok i →
    step s = exec i s

/-- The step is refused at the fetch, in this order: an address that does not exist (20_memory.md section 7, the
spec's own decision D7), a word of which a byte was stored to (decision D30), a word that is no instruction
(decision D11). -/
def Obligations.FetchStops : Prop :=
  ∀ s : State,
    (memValid s.params s.cia 4 = false → step s = .refused (.fetchInvalid s.cia)) ∧
    (memValid s.params s.cia 4 = true → anyStored s.stored s.cia 4 = true →
      step s = .refused (.fetchModified s.cia)) ∧
    (memValid s.params s.cia 4 = true → anyStored s.stored s.cia 4 = false → ∀ e,
      decodeBytes s.params.endian s.params.hasSbr (Memory.readBytes s.mem s.cia 4) = .error e →
      step s = .refused (decodeStop e))

/-! ## The arithmetic and logic unit -/

/-- `adder` (R141): the sum modulo 2^32, the carry out of the exact sum, and the overflow by the sign bits. -/
def Obligations.AdderRule : Prop :=
  ∀ (x y : Word) (cin : Bool),
    (adder x y cin).r.toNat = (x.toNat + y.toNat + cin.toNat) % 2 ^ 32 ∧
    ((adder x y cin).cout = true ↔ 2 ^ 32 ≤ x.toNat + y.toNat + cin.toNat) ∧
    ((adder x y cin).v = true ↔ sign x = sign y ∧ sign (adder x y cin).r ≠ sign x)

/-- add, sub and subb (R142, R144, R145): the results modulo 2^32, C of sub the absence of a borrow. -/
def Obligations.AddSubRules : Prop :=
  ∀ (a b : Word) (c : Bool),
    alu .add a b c = some (adder a b false).out ∧ (adder a b false).r = a + b ∧
    alu .sub a b c = some (adder a (~~~b) true).out ∧ (adder a (~~~b) true).r = a - b ∧
    ((adder a (~~~b) true).cout = true ↔ b.toNat ≤ a.toNat) ∧
    alu .subb a b c = some (adder a (~~~b) c).out ∧
    (adder a (~~~b) c).r = a - b - 1#32 + (if c then 1#32 else 0#32)

/-- V after add, addc, sub and subb is the signed overflow of the sum or difference (40_alu_operations.md
section 2; for sub and subb the spec's own decision D17, for addc its decision D18). -/
def Obligations.OverflowIsSigned : Prop :=
  ∀ (a b : Word) (c : Bool) (o : AluOut),
    (alu .add a b c = some o → (o.v = true ↔ o.r.toInt ≠ a.toInt + b.toInt)) ∧
    (alu .addc a b c = some o → (o.v = true ↔ o.r.toInt ≠ a.toInt + b.toInt + c.toNat)) ∧
    (alu .sub a b c = some o → (o.v = true ↔ o.r.toInt ≠ a.toInt - b.toInt)) ∧
    (alu .subb a b c = some o → (o.v = true ↔ o.r.toInt ≠ a.toInt - b.toInt - 1 + c.toNat))

/-- addc: the adder with the flag C of before the instruction (40_alu_operations.md section 2, the spec's own
reading D18). -/
def Obligations.AddcRule : Prop :=
  ∀ (a b : Word) (c : Bool), alu .addc a b c = some (adder a b c).out ∧
    (adder a b c).r = a + b + (if c then 1#32 else 0#32)

/-- and, or, xor (R147): bit by bit; no carry, no overflow. -/
def Obligations.LogicRule : Prop :=
  ∀ (a b : Word) (c : Bool) (n : Nat), n < 32 →
    (∃ o, alu .and a b c = some o ∧ o.r.getLsbD n = (a.getLsbD n && b.getLsbD n) ∧
      o.carry = .logic ∧ o.v = false) ∧
    (∃ o, alu .or a b c = some o ∧ o.r.getLsbD n = (a.getLsbD n || b.getLsbD n) ∧
      o.carry = .logic ∧ o.v = false) ∧
    (∃ o, alu .xor a b c = some o ∧ o.r.getLsbD n = (a.getLsbD n ^^ b.getLsbD n) ∧
      o.carry = .logic ∧ o.v = false)

/-- The shifts, bit by bit (40_alu_operations.md section 4; the sign fill is the spec's own general knowledge
G5, log entry 9, the arithmetic left shift its decision D15): left by 0 .. 31 with zeros, right by 1 .. 31 with
zeros or copies of bit 31; C is the least significant bit discarded by a left shift by 1 .. 31, cleared by a
right shift, and for amount 0 the draw (decision D16, log entry 6); V is 0; an amount outside -31 .. 31 has no
result (decision D14). -/
def Obligations.ShiftRule : Prop :=
  ∀ (a b : Word) (c arith : Bool),
    (∀ n : Nat, n ≤ 31 → b.toInt = n →
      ∃ o, alu (if arith then .sha else .sh) a b c = some o ∧ o.v = false ∧
        (∀ j, j < 32 → o.r.getLsbD j = (decide (n ≤ j) && a.getLsbD (j - n))) ∧
        o.carry = (if n = 0 then .drawn else .known (a.getLsbD (32 - n)))) ∧
    (∀ m : Nat, 1 ≤ m → m ≤ 31 → b.toInt = -m →
      ∃ o, alu (if arith then .sha else .sh) a b c = some o ∧ o.v = false ∧
        (∀ j, j < 32 → o.r.getLsbD j = (if j + m < 32 then a.getLsbD (j + m) else arith && sign a)) ∧
        o.carry = .known false) ∧
    (b.toInt < -31 ∨ 31 < b.toInt → alu (if arith then .sha else .sh) a b c = none)

/-- Only a shift can be without a result, and only by its amount: every other operation has one on every
operand (40_alu_operations.md sections 5 and 7). -/
def Obligations.AluStopsOnlyOnShiftRange : Prop :=
  ∀ (op : AluOp) (a b : Word) (c : Bool), alu op a b c = none ↔
    (op = .sh ∨ op = .sha) ∧ (b.toInt < -31 ∨ 31 < b.toInt)

/-- The flag update (40_alu_operations.md section 6): Z, N from the result, V the operation's, C the adder's or
the shift's carry; after and, or, xor by the format (the spec's own decision D20, log entries 5 and 19); the
drawn C is the free value of the state's counter (decision D16, log entry 6). -/
def Obligations.FlagUpdate : Prop :=
  ∀ (fmt : AluFormat) (o : AluOut) (s : State),
    ((setflags fmt o s).z = true ↔ o.r = 0#32) ∧ (setflags fmt o s).n = o.r.getLsbD 31 ∧
    (setflags fmt o s).v = o.v ∧
    (∀ b, o.carry = .known b → (setflags fmt o s).c = b) ∧
    (o.carry = .drawn → (setflags fmt o s).c = Config.shl0C s.draws) ∧
    (o.carry = .logic → fmt = .ri → (setflags fmt o s).c = false) ∧
    (o.carry = .logic → fmt = .rr → (setflags fmt o s).c = s.flags.c) ∧
    (o.carry = .logic → fmt = .rrr → s.params.rrrLogicC = .clear → (setflags fmt o s).c = false) ∧
    (o.carry = .logic → fmt = .rrr → s.params.rrrLogicC = .keep → (setflags fmt o s).c = s.flags.c)

/-- After a flag-setting sub of `a` and `b`, in any format, the conditions compare `a` and `b` as their names say
(46_br.md section 4, the spec's own inference from R292, R141, R144, R146). -/
def Obligations.ConditionsCompare : Prop :=
  ∀ (a b : Word) (c : Bool) (o : AluOut) (fmt : AluFormat) (s : State), alu .sub a b c = some o →
    (cond .eq (setflags fmt o s) = true ↔ a = b) ∧ (cond .ne (setflags fmt o s) = true ↔ a ≠ b) ∧
    (cond .hi (setflags fmt o s) = true ↔ b.toNat < a.toNat) ∧
    (cond .ls (setflags fmt o s) = true ↔ a.toNat ≤ b.toNat) ∧
    (cond .cs (setflags fmt o s) = true ↔ b.toNat ≤ a.toNat) ∧
    (cond .cc (setflags fmt o s) = true ↔ a.toNat < b.toNat) ∧
    (cond .ge (setflags fmt o s) = true ↔ b.toInt ≤ a.toInt) ∧
    (cond .lt (setflags fmt o s) = true ↔ a.toInt < b.toInt) ∧
    (cond .gt (setflags fmt o s) = true ↔ b.toInt < a.toInt) ∧
    (cond .le (setflags fmt o s) = true ↔ a.toInt ≤ b.toInt) ∧
    (cond .vs (setflags fmt o s) = true ↔ o.r.toInt ≠ a.toInt - b.toInt) ∧
    (cond .mi (setflags fmt o s) = true ↔ o.r.toInt < 0)

/-- The sixteen conditions (46_br.md section 1): each function of the flags in plain terms, and the eight
complementary pairs. -/
def Obligations.ConditionTable : Prop :=
  ∀ g : Flags,
    cond .t g = true ∧ cond .f g = false ∧
    (cond .hi g = true ↔ g.c = true ∧ g.z = false) ∧ (cond .ls g = true ↔ g.c = false ∨ g.z = true) ∧
    (cond .cc g = true ↔ g.c = false) ∧ (cond .cs g = true ↔ g.c = true) ∧
    (cond .ne g = true ↔ g.z = false) ∧ (cond .eq g = true ↔ g.z = true) ∧
    (cond .vc g = true ↔ g.v = false) ∧ (cond .vs g = true ↔ g.v = true) ∧
    (cond .pl g = true ↔ g.n = false) ∧ (cond .mi g = true ↔ g.n = true) ∧
    (cond .ge g = true ↔ g.n = g.v) ∧ (cond .lt g = true ↔ g.n ≠ g.v) ∧
    (cond .gt g = true ↔ g.n = g.v ∧ g.z = false) ∧ (cond .le g = true ↔ g.z = true ∨ g.n ≠ g.v)

/-! ## Operands -/

/-- Register numbers (10_state.md section 1): thirty registers have storage of their own, no two the same, and a
source operand reads it where `SPECIAL_REGS` and `FLAGS_ALIAS` say nothing of the register (decisions D4, D6;
what they may say: `SpecialRegisters`); register 2 reads the instruction's address plus `PC_READ_OFFSET`,
whatever jump is pending (decision D3, log entry 2); register 31 is refused (decision D5, log entry 11). -/
def Obligations.RegisterNumbers : Prop :=
  (∀ g : Gpr, gpr? (gprNumber g) = some g) ∧
  (∀ (r : Reg) (g : Gpr), gpr? r = some g → gprNumber g = r) ∧
  (∀ r : Reg, gpr? r = none ↔ r = 2#5 ∨ r = 31#5) ∧
  (∀ (field : RegField) (r : Reg) (g : Gpr) (s : State), gpr? r = some g →
    source field r s = .ok (readReg s g) ∧
      (behaviour s.params g = none → flagsIn s.params g = none → readReg s g = s.regs.get g)) ∧
  (∀ (field : RegField) (s : State), source field 2#5 s = .ok (s.cia + s.params.pcReadOffset)) ∧
  (∀ (field : RegField) (s : State), source field 31#5 s = .error (.isrAccess field))

/-- Branch targets (46_br.md section 1): an absolute target is four times the constant; a relative one is what
register 2 reads plus four times the signed constant, modulo 2^32 (the spec's own decisions D3 and D31); both
are multiples of 4 where `cia` is. -/
def Obligations.BranchTargets : Prop :=
  ∀ (k : BitVec 23) (s : State),
    (absTarget k).toNat = 4 * k.toNat ∧ aligned4 (absTarget k) = true ∧
    relTarget s k = s.cia + s.params.pcReadOffset + BitVec.ofInt 32 (4 * k.toInt) ∧
    (aligned4 s.cia = true → aligned4 (relTarget s k) = true)

/-- Byte order (20_memory.md section 2, the spec's own decision D8): the value of one, two or four bytes under
each `ENDIAN`, bytes at addresses modulo 2^32. -/
def Obligations.ByteOrder : Prop :=
  ∀ (s : State) (a : Word) (b0 b1 b2 b3 : Byte),
    b0 = Memory.readByte s.mem (byteAddr a 0) → b1 = Memory.readByte s.mem (byteAddr a 1) →
    b2 = Memory.readByte s.mem (byteAddr a 2) → b3 = Memory.readByte s.mem (byteAddr a 3) →
    (s.params.endian = .big →
      (valueAt a 4 s).toNat = b0.toNat * 2 ^ 24 + b1.toNat * 2 ^ 16 + b2.toNat * 2 ^ 8 + b3.toNat ∧
      (valueAt a 2 s).toNat = b0.toNat * 2 ^ 8 + b1.toNat ∧ (valueAt a 1 s).toNat = b0.toNat) ∧
    (s.params.endian = .little →
      (valueAt a 4 s).toNat = b3.toNat * 2 ^ 24 + b2.toNat * 2 ^ 16 + b1.toNat * 2 ^ 8 + b0.toNat ∧
      (valueAt a 2 s).toNat = b1.toNat * 2 ^ 8 + b0.toNat ∧ (valueAt a 1 s).toNat = b0.toNat)

/-- The bytes of a value read back as its least significant part, in either byte order (20_memory.md
section 2). -/
def Obligations.BytesReadBack : Prop :=
  ∀ (en : Endian) (v : Word), valueOf en (bytesOf en 4 v) = v ∧
    valueOf en (bytesOf en 2 v) = (v.setWidth 16).setWidth 32 ∧
    valueOf en (bytesOf en 1 v) = (v.setWidth 8).setWidth 32

/-- Part-word loads (45_rrm.md section 1): zero-extended or sign-extended from the least significant part. -/
def Obligations.PartWordExtension : Prop :=
  ∀ v : Word,
    (extend .half .zero v).toNat = v.toNat % 2 ^ 16 ∧
    (extend .half .sign v).toInt = (v.setWidth 16).toInt ∧
    (extend .byte .zero v).toNat = v.toNat % 2 ^ 8 ∧
    (extend .byte .sign v).toInt = (v.setWidth 8).toInt ∧
    (∀ ext, extend .full ext v = v)

/-- The right operand of RI (30_encoding.md section 3): the constant in the low or the high halfword with zeros in
the other, with ones for and; the signed constant for a shift; never extended by its sign otherwise. -/
def Obligations.RiConstants : Prop :=
  (∀ (op : BaseOp) (k : BitVec 16), op ≠ .and →
    (riConst (.plain op false) k).toNat = k.toNat ∧ (riConst (.plain op true) k).toNat = k.toNat * 2 ^ 16) ∧
  (∀ k : BitVec 16,
    (riConst (.plain .and false) k).toNat = 0xFFFF0000 + k.toNat ∧
    (riConst (.plain .and true) k).toNat = k.toNat * 2 ^ 16 + 0xFFFF ∧
    (riConst .sh k).toInt = k.toInt ∧ (riConst .sha k).toInt = k.toInt)

/-- The four addressing modes by their code PQ (44_rm.md section 1): P selects the sum as the address, Q the update
of the base register with the sum, as a write of that register and of nothing else. -/
def Obligations.AddressModes : Prop :=
  ∀ (m : Mode) (a t : Word) (rs1 : Reg) (s : State) (r : Gpr),
    modeEa m a t = (if m.bits.getLsbD 1 then t else a) ∧ updatesBase m = m.bits.getLsbD 0 ∧
    (m.bits.getLsbD 0 = true → gpr? rs1 = some r → withBase m rs1 t s = setReg r t s ∧
      (behaviour s.params r = none → readReg (withBase m rs1 t s) r = t)) ∧
    (¬ (m.bits.getLsbD 0 = true ∧ gpr? rs1 = some r) → readReg (withBase m rs1 t s) r = readReg s r)

/-! ## Results, instruction by instruction

The state after each of these steps is `settled i s t`: the `t` that the spec's rule gives, but for the registers and
the flags where a register that the step accesses has a side effect (`SPECIAL_REGS`). `freeFlags` says that the flags'
register is not written twice (`FLAGS_ALIAS`). Both are the model's choice (log entry 10); at the spec's defaults
`settled i s t` is `t`, and `freeFlags` holds. -/

/-- RI with a plain Rd, all nine operations (riAdd to riSha): on readable operands whose operation has a result, and
with no late value about to land on Rd, the instruction completes: Rd takes the result, the flags change with F = 1
and only then, a pending late value lands, the machine advances, and nothing else changes (41_ri.md section 1; the
late slot and the collision are the spec's own decision D23). `settled` and `freeFlags` are of log entry 10. -/
def Obligations.RiResult : Prop :=
  ∀ (i : Instr) (op : OpH) (rd rs1 : Reg) (f : Bool) (k : BitVec 16) (g : Gpr) (o : AluOut) (s : State),
    i.form = .ri op rd rs1 f k → gpr? rd = some g → rs1 ≠ 31#5 →
    alu (opHAlu op) (regValue rs1 s) (riConst op k) s.flags.c = some o →
    freeToWrite g s → freeFlags f (some g) s →
    exec i s = .next (settled i s { setReg g o.r (fallThrough s) with
      flags := if f then setflags .ri o s else (setReg g o.r (fallThrough s)).flags
      draws := if f = true ∧ o.carry = .drawn then s.draws + 1 else s.draws })

/-- RR with a plain Rd, all nine operations (rrAdd to rrSha), as for RI (42_rr.md section 1; decision D23).
`settled` and `freeFlags` are of log entry 10. -/
def Obligations.RrResult : Prop :=
  ∀ (i : Instr) (op : OpJ) (rd rs1 : Reg) (f : Bool) (rs2 : Reg) (g : Gpr) (o : AluOut) (s : State),
    i.form = .rr op rd rs1 f rs2 → gpr? rd = some g → rs1 ≠ 31#5 → rs2 ≠ 31#5 →
    alu (opJAlu op) (regValue rs1 s) (regValue rs2 s) s.flags.c = some o →
    freeToWrite g s → freeFlags f (some g) s →
    exec i s = .next (settled i s { setReg g o.r (fallThrough s) with
      flags := if f then setflags .rr o s else (setReg g o.r (fallThrough s)).flags
      draws := if f = true ∧ o.carry = .drawn then s.draws + 1 else s.draws })

/-- RI and RR with Rd = 2, all eighteen operations: where the result is a multiple of 4 and no jump is pending, the
instruction completes as a jump with one shadow: the next instruction is still the one at `nia`, the one after it is
at the result; the flags are set from it with F = 1 (41_ri.md and 42_rr.md section 1; the alignment and the shadow
are the spec's own decisions D10 and D22). `settled` and `freeFlags` are of log entry 10. -/
def Obligations.RiRrJump : Prop :=
  (∀ (i : Instr) (op : OpH) (rs1 : Reg) (f : Bool) (k : BitVec 16) (o : AluOut) (s : State),
    i.form = .ri op 2#5 rs1 f k → rs1 ≠ 31#5 →
    alu (opHAlu op) (regValue rs1 s) (riConst op k) s.flags.c = some o →
    aligned4 o.r = true → s.js = false → freeFlags f none s →
    exec i s = .next (settled i s { fallThrough s with
      nia := o.r
      js := true
      flags := if f then setflags .ri o s else (fallThrough s).flags
      draws := if f = true ∧ o.carry = .drawn then s.draws + 1 else s.draws })) ∧
  (∀ (i : Instr) (op : OpJ) (rs1 : Reg) (f : Bool) (rs2 : Reg) (o : AluOut) (s : State),
    i.form = .rr op 2#5 rs1 f rs2 → rs1 ≠ 31#5 → rs2 ≠ 31#5 →
    alu (opJAlu op) (regValue rs1 s) (regValue rs2 s) s.flags.c = some o →
    aligned4 o.r = true → s.js = false → freeFlags f none s →
    exec i s = .next (settled i s { fallThrough s with
      nia := o.r
      js := true
      flags := if f then setflags .rr o s else (fallThrough s).flags
      draws := if f = true ∧ o.carry = .drawn then s.draws + 1 else s.draws }))

/-- RRR, all seventy-two instructions rrr.<op2>.<op1>: Rd takes Rs1 op2 (Rs2 op1 Rs3), the flags come from op2
alone, both operations read the C of before the instruction (43_rrr.md section 1; decisions D19, D20, D23).
`settled` and `freeFlags` are of log entry 10. -/
def Obligations.RrrResult : Prop :=
  ∀ (i : Instr) (op2 : OpH) (op1 : Op1) (rd rs1 : Reg) (f : Bool) (rs2 rs3 : Reg) (g : Gpr) (t o : AluOut)
    (s : State),
    i.form = .rrr op2 op1 rd rs1 f rs2 rs3 → gpr? rd = some g → rs1 ≠ 31#5 → rs2 ≠ 31#5 → rs3 ≠ 31#5 →
    alu (op1Alu op1) (regValue rs2 s) (regValue rs3 s) s.flags.c = some t →
    alu (opHAlu op2) (regValue rs1 s) t.r s.flags.c = some o →
    freeToWrite g s → freeFlags f (some g) s →
    exec i s = .next (settled i s { setReg g o.r (fallThrough s) with
      flags := if f then setflags .rrr o s else (setReg g o.r (fallThrough s)).flags
      draws := if f = true ∧ o.carry = .drawn then s.draws + 1 else s.draws })

/-- op1 of RRR by its code CCC, bits 2:0 of the word (R222, R224, R226, R227, R228), seen through an RRR whose op2
is an or of a register that holds 0: Rd takes t itself. `settled` is of log entry 10. -/
def Obligations.RrrFirstOperation : Prop :=
  ∀ (i : Instr) (op1 : Op1) (h : Bool) (rd rs1 rs2 rs3 : Reg) (g : Gpr) (s : State),
    i.form = .rrr (.plain .or h) op1 rd rs1 false rs2 rs3 → gpr? rd = some g →
    rs1 ≠ 31#5 → rs2 ≠ 31#5 → rs3 ≠ 31#5 → regValue rs1 s = 0#32 → freeToWrite g s →
    ∀ t : Word,
      (fld (encode i) 0 3 = 0#3 ∧ t = regValue rs2 s + regValue rs3 s) ∨
      (fld (encode i) 0 3 = 2#3 ∧ t = regValue rs2 s - regValue rs3 s) ∨
      (fld (encode i) 0 3 = 4#3 ∧ t = regValue rs2 s &&& regValue rs3 s) ∨
      (fld (encode i) 0 3 = 5#3 ∧ t = regValue rs2 s ||| regValue rs3 s) ∨
      (fld (encode i) 0 3 = 6#3 ∧ t = regValue rs2 s ^^^ regValue rs3 s) →
    exec i s = .next (settled i s (setReg g t (fallThrough s)))

/-- rm.ld (44_rm.md sections 1 and 2): at an aligned address that exists the fullword there becomes the late value
for Rd, the base is updated in modes post and pre, and nothing else changes (the alignment, the refused base and the
collision are the spec's own decisions D9, D24, D23). `settled` is of log entry 10. -/
def Obligations.RmLoad : Prop :=
  ∀ (i : Instr) (rd rs1 : Reg) (m : Mode) (k : BitVec 16) (g : Gpr) (ea : Word) (s : State),
    i.form = .rm false rd rs1 m k → gpr? rd = some g → rs1 ≠ 31#5 →
    ea = modeEa m (regValue rs1 s) (regValue rs1 s + k.signExtend 32) →
    ea.toNat % 4 = 0 → memValid s.params ea 4 = true → baseFree m rs1 s →
    exec i s = .next (settled i s { withBase m rs1 (regValue rs1 s + k.signExtend 32) (fallThrough s) with
      lp := some { reg := g, val := valueAt ea 4 s } })

/-- rm.st (44_rm.md sections 1 and 2): at an aligned address that exists, Rd's value of before the landing is stored
as a fullword, the base is updated in modes post and pre, and nothing else changes (decisions D9, D24, D23, D37).
Memory in canonical form is the invariant `Inv`. `settled` is of log entry 10. -/
def Obligations.RmStore : Prop :=
  ∀ (i : Instr) (rd rs1 : Reg) (m : Mode) (k : BitVec 16) (g : Gpr) (ea : Word) (s : State),
    i.form = .rm true rd rs1 m k → gpr? rd = some g → rs1 ≠ 31#5 →
    ea = modeEa m (regValue rs1 s) (regValue rs1 s + k.signExtend 32) →
    ea.toNat % 4 = 0 → memValid s.params ea 4 = true → baseFree m rs1 s → Memory.wf s.mem = true →
    ∃ t, exec i s = .next (settled i s t) ∧
      t = { withBase m rs1 (regValue rs1 s + k.signExtend 32) (fallThrough s) with mem := t.mem, stored := t.stored } ∧
      StoredAt s t ea 4 (readReg s g)

/-- RRM loads, the thirty-seven instructions rrm.<ld..>.<op>: as rm.ld with the address operation Rs1 op Rs2, not
performed in mode base, and with the access size and extension of the instruction (45_rrm.md sections 1 to 3;
decisions D9, D23, D24, D34). `settled` is of log entry 10. -/
def Obligations.RrmLoad : Prop :=
  ∀ (i : Instr) (x : RrmForm) (rd rs1 : Reg) (m : Mode) (rs2 : Reg) (g : Gpr) (o : AluOut) (ea : Word)
    (s : State),
    i.form = .rrm x rd rs1 m rs2 → x.s = false → gpr? rd = some g → rs1 ≠ 31#5 → rs2 ≠ 31#5 →
    (m ≠ .base → alu (rrmAlu x) (regValue rs1 s) (regValue rs2 s) s.flags.c = some o) →
    ea = modeEa m (regValue rs1 s) o.r →
    ea.toNat % (rrmSize x).bytes = 0 → memValid s.params ea (rrmSize x).bytes = true → baseFree m rs1 s →
    exec i s = .next (settled i s { withBase m rs1 o.r (fallThrough s) with
      lp := some { reg := g, val := extend (rrmSize x) (rrmExt x) (valueAt ea (rrmSize x).bytes s) } })

/-- RRM stores, the twenty-three instructions rrm.<st..>.<op>: as rm.st with the address operation Rs1 op Rs2 and
with the access size of the instruction; only the bytes of the part-word change (45_rrm.md sections 1 to 3;
decisions D9, D23, D24, D34, D36). `settled` is of log entry 10. -/
def Obligations.RrmStore : Prop :=
  ∀ (i : Instr) (x : RrmForm) (rd rs1 : Reg) (m : Mode) (rs2 : Reg) (g : Gpr) (o : AluOut) (ea : Word)
    (s : State),
    i.form = .rrm x rd rs1 m rs2 → x.s = true → gpr? rd = some g → rs1 ≠ 31#5 → rs2 ≠ 31#5 →
    (m ≠ .base → alu (rrmAlu x) (regValue rs1 s) (regValue rs2 s) s.flags.c = some o) →
    ea = modeEa m (regValue rs1 s) o.r →
    ea.toNat % (rrmSize x).bytes = 0 → memValid s.params ea (rrmSize x).bytes = true → baseFree m rs1 s →
    Memory.wf s.mem = true →
    ∃ t, exec i s = .next (settled i s t) ∧
      t = { withBase m rs1 o.r (fallThrough s) with mem := t.mem, stored := t.stored } ∧
      StoredAt s t ea (rrmSize x).bytes (readReg s g)

/-- sls.ld and sls.st (48_special_memory.md section 1): the fullword at the zero-extended 21-bit address with its
two low bits ignored, which is never misaligned; loaded late or stored (decision D37 for the data of a store in a
load shadow). `settled` is of log entry 10. -/
def Obligations.SlsAccess : Prop :=
  ∀ (i : Instr) (rd : Reg) (a : BitVec 21) (g : Gpr) (s : State), gpr? rd = some g →
    (slsAddr a).toNat = a.toNat / 4 * 4 ∧
    (i.form = .sls false rd a → memValid s.params (slsAddr a) 4 = true →
      exec i s = .next (settled i s { fallThrough s with
        lp := some { reg := g, val := valueAt (slsAddr a) 4 s } })) ∧
    (i.form = .sls true rd a → memValid s.params (slsAddr a) 4 = true → Memory.wf s.mem = true →
      ∃ t, exec i s = .next (settled i s t) ∧
        t = { fallThrough s with mem := t.mem, stored := t.stored } ∧
        StoredAt s t (slsAddr a) 4 (readReg s g))

/-- sli (48_special_memory.md section 2): the zero-extended 21-bit constant becomes the late value for Rd, and
nothing else changes (the timing is the spec's own decision D38, log entry 15). `settled` is of log entry 10. -/
def Obligations.SliResult : Prop :=
  ∀ (rd : Reg) (k : BitVec 21) (g : Gpr) (s : State), gpr? rd = some g →
    exec (.sli rd k) s = .next (settled (.sli rd k) s { fallThrough s with
      lp := some { reg := g, val := BitVec.ofNat 32 k.toNat } })

/-- SPLS loads, spls.ldh, ldhu, ldb, ldbu (48_special_memory.md section 3): as rm.ld with a 10-bit displacement and
a part-word access (decisions D9, D23, D24). `settled` is of log entry 10. -/
def Obligations.SplsLoad : Prop :=
  ∀ (i : Instr) (acc : SplsAcc) (rd rs1 : Reg) (m : Mode) (k : BitVec 10) (g : Gpr) (ea : Word) (s : State),
    i.form = .spls acc rd rs1 m k → acc.s = false → gpr? rd = some g → rs1 ≠ 31#5 →
    ea = modeEa m (regValue rs1 s) (regValue rs1 s + k.signExtend 32) →
    ea.toNat % (splsSize acc).bytes = 0 → memValid s.params ea (splsSize acc).bytes = true →
    baseFree m rs1 s →
    exec i s = .next (settled i s { withBase m rs1 (regValue rs1 s + k.signExtend 32) (fallThrough s) with
      lp := some { reg := g, val := extend (splsSize acc) (splsExt acc) (valueAt ea (splsSize acc).bytes s) } })

/-- SPLS stores, spls.sth and spls.stb (48_special_memory.md section 3): as rm.st with a 10-bit displacement; only
the bytes of the part-word change (decisions D9, D23, D24, D36, D37). `settled` is of log entry 10. -/
def Obligations.SplsStore : Prop :=
  ∀ (i : Instr) (acc : SplsAcc) (rd rs1 : Reg) (m : Mode) (k : BitVec 10) (g : Gpr) (ea : Word) (s : State),
    i.form = .spls acc rd rs1 m k → acc.s = true → gpr? rd = some g → rs1 ≠ 31#5 →
    ea = modeEa m (regValue rs1 s) (regValue rs1 s + k.signExtend 32) →
    ea.toNat % (splsSize acc).bytes = 0 → memValid s.params ea (splsSize acc).bytes = true →
    baseFree m rs1 s → Memory.wf s.mem = true →
    ∃ t, exec i s = .next (settled i s t) ∧
      t = { withBase m rs1 (regValue rs1 s + k.signExtend 32) (fallThrough s) with mem := t.mem, stored := t.stored } ∧
      StoredAt s t ea (splsSize acc).bytes (readReg s g)

/-- BR, all thirty-two instructions br.<cc> and brr.<cc> (46_br.md sections 1 to 3): not taken, the step does
nothing of its own; taken, with no jump pending, it is a jump with one shadow to its target; taken in a jump's
shadow it is refused (decision D22). A relative target is a multiple of 4, and never refused for that, where `cia`
is one, as the invariant `Inv` says (R30; log entries 2 and 18). `settled` is of log entry 10. -/
def Obligations.BranchResult : Prop :=
  ∀ (i : Instr) (rel : Bool) (c : Cond) (k : BitVec 23) (s : State), i.form = .br rel c k →
    (cond c s.flags = false → exec i s = .next (settled i s (fallThrough s))) ∧
    (cond c s.flags = true → (rel = true → aligned4 s.cia = true) → s.js = false →
      exec i s = .next (settled i s { fallThrough s with
        nia := if rel then relTarget s k else absTarget k
        js := true })) ∧
    (cond c s.flags = true → (rel = true → aligned4 s.cia = true) → s.js = true →
      exec i s = .refused (.jumpInShadow s.cia))

/-- br.f (R297): never taken, it changes no state beyond the advance (and the landing of the value that a load
before it left in the late-write slot, `BranchResult` where the register it lands on has a side effect). -/
def Obligations.BranchNever : Prop :=
  encode (.brF 0x40#23) = 0xE0000101#32 ∧
  ∀ (k : BitVec 23) (s : State), decode true (encode (.brF k)) = .ok (.brF k) ∧
    fld (encode (.brF k)) 25 3 = 0#3 ∧ bit (encode (.brF k)) 0 = true ∧
    (quiet (.brF k) s → exec (.brF k) s = .next (fallThrough s))

/-- SBR, all sixteen instructions sbr.<cc> (49_sbr.md section 1): not taken, the step does nothing of its own,
whatever the sum; taken, a jump with one shadow to Rs1 + Rs3 where that is a multiple of 4 and no jump is pending,
else refused, the alignment first (decisions D10, D22, D27). `settled` is of log entry 10. -/
def Obligations.SbrResult : Prop :=
  ∀ (i : Instr) (c : Cond) (rs1 rs3 : Reg) (s : State), i.form = .sbr c rs1 rs3 →
    rs1 ≠ 31#5 → rs3 ≠ 31#5 →
    (cond c s.flags = false → exec i s = .next (settled i s (fallThrough s))) ∧
    (cond c s.flags = true → aligned4 (regValue rs1 s + regValue rs3 s) = true → s.js = false →
      exec i s = .next (settled i s { fallThrough s with
        nia := regValue rs1 s + regValue rs3 s
        js := true })) ∧
    (cond c s.flags = true → aligned4 (regValue rs1 s + regValue rs3 s) = false →
      exec i s = .refused (.misalignedTarget (regValue rs1 s + regValue rs3 s))) ∧
    (cond c s.flags = true → aligned4 (regValue rs1 s + regValue rs3 s) = true → s.js = true →
      exec i s = .refused (.jumpInShadow s.cia))

/-- punt (47_punt.md): outside the shadow of a load or a jump it completes with the context toggled, no late
value, and instruction addresses that are multiples of 4; what else it does is the open function `CTX_SWITCH`
(decision D25, log entries 13 and 14), of which the model keeps the parameters, loses no address of W and keeps
memory in canonical form; in such a shadow it is refused. -/
def Obligations.PuntResult : Prop :=
  ∀ s : State,
    (s.lp = none → s.js = false → ∃ t, exec .punt s = .next t ∧
      t.ctx = !s.ctx ∧ t.lp = none ∧ aligned4 t.cia = true ∧ aligned4 t.nia = true ∧
      t.params = s.params ∧ t.draws = s.draws ∧ Memory.wf t.mem = true ∧ ∀ a, a ∈ s.stored → a ∈ t.stored) ∧
    (s.lp.isSome = true ∨ s.js = true → exec .punt s = .refused .puntInShadow)

/-- The all-zero word is a no-op (41_ri.md section 1): it changes no state except the advance and the landing of a
late value; with a value about to land on R0 it is refused (decision D23). `settled` is of log entry 10. -/
def Obligations.AllZeroWord : Prop :=
  decode true 0#32 = .ok (.riAdd 0#5 0#5 false false 0#16) ∧
  ∀ s : State,
    (freeToWrite 0 s → exec (.riAdd 0#5 0#5 false false 0#16) s =
      .next (settled (.riAdd 0#5 0#5 false false 0#16) s (fallThrough s))) ∧
    (¬ freeToWrite 0 s → exec (.riAdd 0#5 0#5 false false 0#16) s = .refused (.writeCollision 0))

/-! ## Where an instruction stops -/

/-- An instruction that its own word makes the spec refuse is refused by that name in every state: a restricted
Rd, register 31, a base update of register 2, an RI shift out of range, in the order of 60_exceptions.md R394
(decisions D5, D12, D13, D14, D24). -/
def Obligations.StaticViolationsRefused : Prop :=
  ∀ (i : Instr) (v : Violation) (s : State), i.violation = some v → exec i s = .refused (violationRefusal v)

/-- A register shift amount outside -31 .. 31 is refused: as the amount of RR, of op1 or op2 of RRR, and of an RRM
address outside mode base (40_alu_operations.md section 4, decision D14). -/
def Obligations.RegisterShiftRange : Prop :=
  (∀ (i : Instr) (op : OpJ) (rd rs1 : Reg) (f : Bool) (rs2 : Reg) (s : State),
    i.form = .rr op rd rs1 f rs2 → i.violation = none →
    alu (opJAlu op) (regValue rs1 s) (regValue rs2 s) s.flags.c = none →
    exec i s = .refused (.shiftRange (regValue rs2 s).toInt)) ∧
  (∀ (i : Instr) (op2 : OpH) (op1 : Op1) (rd rs1 : Reg) (f : Bool) (rs2 rs3 : Reg) (s : State),
    i.form = .rrr op2 op1 rd rs1 f rs2 rs3 → i.violation = none →
    alu (op1Alu op1) (regValue rs2 s) (regValue rs3 s) s.flags.c = none →
    exec i s = .refused (.shiftRange (regValue rs3 s).toInt)) ∧
  (∀ (i : Instr) (op2 : OpH) (op1 : Op1) (rd rs1 : Reg) (f : Bool) (rs2 rs3 : Reg) (t : AluOut) (s : State),
    i.form = .rrr op2 op1 rd rs1 f rs2 rs3 → i.violation = none →
    alu (op1Alu op1) (regValue rs2 s) (regValue rs3 s) s.flags.c = some t →
    alu (opHAlu op2) (regValue rs1 s) t.r s.flags.c = none →
    exec i s = .refused (.shiftRange t.r.toInt)) ∧
  (∀ (i : Instr) (x : RrmForm) (rd rs1 : Reg) (m : Mode) (rs2 : Reg) (s : State),
    i.form = .rrm x rd rs1 m rs2 → i.violation = none → m ≠ .base →
    alu (rrmAlu x) (regValue rs1 s) (regValue rs2 s) s.flags.c = none →
    exec i s = .refused (.shiftRange (regValue rs2 s).toInt))

/-- A load or store at an address that is not a multiple of its size is refused (20_memory.md section 4, decision
D9), at an aligned address that does not exist too (section 3, decision D7). -/
def Obligations.AccessStops : Prop :=
  ∀ (i : Instr) (ea : Word) (n : Nat) (s : State), i.violation = none → dataAccess i s = some (ea, n) →
    (ea.toNat % n ≠ 0 → exec i s = .refused (.misaligned ea n)) ∧
    (ea.toNat % n = 0 → memValid s.params ea n = false → exec i s = .refused (.accessInvalid ea n))

/-- An instruction that would complete with the late-write slot empty is refused when the slot's value is about to
land on the register it writes at time 2 (10_state.md section 4, decision D23). -/
def Obligations.WriteCollisionRefused : Prop :=
  ∀ (i : Instr) (l : Late) (s t : State), s.lp = some l → writeReg? i = some l.reg →
    exec i { s with lp := none } = .next t → exec i s = .refused (.writeCollision l.reg)

/-- An instruction that would jump were no jump pending is refused in a jump's shadow (10_state.md section 2,
decision D22); PUNT has its own refusal. -/
def Obligations.JumpInShadowRefused : Prop :=
  ∀ (i : Instr) (s t : State), isPunt i = false → s.js = true → exec i { s with js := false } = .next t →
    t.js = true → exec i s = .refused (.jumpInShadow s.cia)

/-- RI and RR jumps to an address that is not a multiple of 4 are refused (10_state.md section 2, decision D10).
Where such a jump, aligned or not, sets the flags while a value lands on their register, the collision is reported
(60_exceptions.md section 1, R394: it comes first; that there is one is the model's choice, log entry 10). -/
def Obligations.MisalignedJumpRefused : Prop :=
  (∀ (i : Instr) (op : OpH) (rs1 : Reg) (f : Bool) (k : BitVec 16) (o : AluOut) (s : State),
    i.form = .ri op 2#5 rs1 f k → rs1 ≠ 31#5 →
    alu (opHAlu op) (regValue rs1 s) (riConst op k) s.flags.c = some o →
    (freeFlags f none s → aligned4 o.r = false → exec i s = .refused (.misalignedTarget o.r)) ∧
    (∀ l, f = true → s.lp = some l → flagsIn s.params l.reg ≠ none →
      exec i s = .refused (.writeCollision l.reg))) ∧
  (∀ (i : Instr) (op : OpJ) (rs1 : Reg) (f : Bool) (rs2 : Reg) (o : AluOut) (s : State),
    i.form = .rr op 2#5 rs1 f rs2 → rs1 ≠ 31#5 → rs2 ≠ 31#5 →
    alu (opJAlu op) (regValue rs1 s) (regValue rs2 s) s.flags.c = some o →
    (freeFlags f none s → aligned4 o.r = false → exec i s = .refused (.misalignedTarget o.r)) ∧
    (∀ l, f = true → s.lp = some l → flagsIn s.params l.reg ≠ none →
      exec i s = .refused (.writeCollision l.reg)))

/-! ## The whole machine: every instruction -/

/-- The invariant holds after every step that has a next state. That memory and W are in canonical form after
PUNT is the model's choice (log entry 14): R332 requires only that PUNT sets `cia`, `nia`, `lp` and `ctx`. A jump's
target is a multiple of 4 because any other is refused (the spec's own decision D10). -/
def Obligations.InvKept : Prop :=
  ∀ s t : State, Inv s → step s = .next t → Inv t

/-- The state after reset: the invariant, and what 70_reset_and_hazards.md section 1 requires of a start state
(decision D28). Every other value of the reset state is the model's choice (log entries 1 to 8). -/
def Obligations.ResetState : Prop :=
  Inv State.reset ∧ State.reset.nia = State.reset.cia + 4#32 ∧ State.reset.js = false ∧
    State.reset.lp = none ∧ State.reset.stored = []

/-- Sequencing (10_state.md section 2): after every step but PUNT's the next instruction is the one at `nia`;
after it comes `nia + 4` unless the step jumped, modulo 2^32 (the spec's own decision D31, log entry 33); only a
step outside a jump's shadow jumps (decision D22, log entry 17). -/
def Obligations.Sequencing : Prop :=
  ∀ (i : Instr) (s t : State), isPunt i = false → exec i s = .next t →
    t.cia = s.nia ∧ (t.js = false → t.nia = s.nia + 4#32) ∧ (t.js = true → s.js = false)

/-- The late value (10_state.md section 4): it lands in the step after the load, whatever that instruction is; the
slot then holds what that instruction itself loads, and is empty after any other. The landing is seen in a
register that has no special behaviour, in a step without a side effect (`SPECIAL_REGS`, decision D4, log entry
10): at the spec's default in every register and step. -/
def Obligations.LateValueLands : Prop :=
  ∀ (i : Instr) (s t : State), isPunt i = false → exec i s = .next t →
    (quiet i s → ∀ l, s.lp = some l → behaviour s.params l.reg = none → readReg t l.reg = l.val) ∧
    t.lp.map Late.reg = lateReg? i

/-- The instruction in a load's shadow does not see the value that is about to land: with another value in the
slot the step does the same, but for the write of the register it lands on (10_state.md section 4), where no
register of the step has a side effect (`SPECIAL_REGS`, log entry 10; none has at the spec's default). -/
def Obligations.LateValueInvisible : Prop :=
  ∀ (i : Instr) (r : Gpr) (v w : Word) (s t : State), quiet i { s with lp := some { reg := r, val := v } } →
    exec i { s with lp := some { reg := r, val := v } } = .next t →
    exec i { s with lp := some { reg := r, val := w } } = .next (setReg r w t)

/-- A register that an instruction does not write at time 2, and on which no late value lands, keeps what it
stores, and its value unless it is the register of flags that change (`FLAGS_ALIAS`), in a step without a side
effect (`SPECIAL_REGS`; both log entry 10, neither at the spec's default); register 31 keeps its value always;
PUNT excepted (10_state.md sections 1 and 4). -/
def Obligations.RegistersKept : Prop :=
  ∀ (i : Instr) (s t : State), isPunt i = false → exec i s = .next t →
    t.isr = s.isr ∧
    (quiet i s → ∀ r : Gpr, writeReg? i ≠ some r → (∀ l, s.lp = some l → l.reg ≠ r) →
      t.regs.get r = s.regs.get r ∧
      (behaviour s.params r ≠ some .sideEffect → (flagsIn s.params r = none ∨ t.flags = s.flags) →
        readReg t r = readReg s r))

/-- The flags and the draw counter change only in RI, RR and RRR instructions with F = 1, PUNT excepted
(10_state.md section 3, decision D21, log entry 33); and, away from the spec's defaults (log entry 10), in a step
with a side effect, the flags also where their register is written or landed on. -/
def Obligations.FlagsKept : Prop :=
  ∀ (i : Instr) (s t : State), isPunt i = false → setsFlags i = false → quiet i s → exec i s = .next t →
    t.draws = s.draws ∧
    ((∀ g, writeReg? i = some g → flagsIn s.params g = none) →
      (∀ l, s.lp = some l → flagsIn s.params l.reg = none) → t.flags = s.flags)

/-- Only a store changes memory, and only the bytes of its access, whose address the instruction computes from
the registers of before the landing (20_memory.md section 1 and 3); PUNT excepted. -/
def Obligations.MemoryKept : Prop :=
  ∀ (i : Instr) (s t : State), isPunt i = false → exec i s = .next t →
    (isStore i = false → t.stored = s.stored ∧ ∀ x, Memory.readByte t.mem x = Memory.readByte s.mem x) ∧
    (isStore i = true → ∃ ea n, dataAccess i s = some (ea, n) ∧
      ∀ x, (∀ j, j < n → x ≠ byteAddr ea j) → Memory.readByte t.mem x = Memory.readByte s.mem x)

/-- W (10_state.md section 7): no step takes an address out of it, and every byte that a step other than PUNT
changes is in it afterwards. That PUNT takes none out is the model's choice (log entry 14): R332 says nothing of
W. -/
def Obligations.StoredAddressesGrow : Prop :=
  ∀ (i : Instr) (s t : State), exec i s = .next t →
    (∀ a, a ∈ s.stored → a ∈ t.stored) ∧
    (isPunt i = false → ∀ x, Memory.readByte t.mem x ≠ Memory.readByte s.mem x → x ∈ t.stored)

/-- The context changes by PUNT and by nothing else, and with it alone what the alternate context owns
(10_state.md section 5, 60_exceptions.md section 4, decision D26, log entry 13). That no instruction, PUNT
included, changes the parameters is the model's choice (log entries 25 and 14) and stands in no rule. -/
def Obligations.ContextOnlyByPunt : Prop :=
  ∀ (i : Instr) (s t : State), exec i s = .next t →
    t.params = s.params ∧ (isPunt i = true → t.ctx = !s.ctx) ∧
    (isPunt i = false → t.ctx = s.ctx ∧ t.alt = s.alt)

/-- Every instruction but PUNT executes by the same rule whatever the context and the alternate context's state
hold (60_exceptions.md section 4, decision D25, log entry 13), and whatever register 31 holds (10_state.md
section 1: R24 with decision D5, by which no instruction reads it; log entry 11): a step from a state that
differs in them alone differs in them alone. -/
def Obligations.ContextNotRead : Prop :=
  ∀ (i : Instr) (c : Bool) (a : List Word) (x : Word) (s t : State), isPunt i = false →
    exec i s = .next t →
    exec i { s with ctx := c, alt := a, isr := x } = .next { t with ctx := c, alt := a, isr := x }

/-! ## The two open parameters of registers -/

/-- What `SPECIAL_REGS` and `FLAGS_ALIAS` may say of a register (00_scope.md R5, decisions D4 and D6; their shape
is the model's, DESIGN CHOICE, log entry 10). A hardwired register reads as its constant and discards what is
written to it. Every other one without a side effect reads as it was written. A write keeps the value of every
other register. The flags' register shows the flags at their places, and a write of it writes them. A flag
update that meets a write of that register or a landing on it is refused. An access with a side effect may change the registers
and the flags and draws from the counter, and nothing else; at the default no access has one. -/
def Obligations.SpecialRegisters : Prop :=
  ∀ (s t : State) (g : Gpr) (v : Word),
    (∀ w, behaviour s.params g = some (.hardwired w) → readReg s g = w ∧ setReg g v s = s) ∧
    (behaviour s.params g = none → readReg (setReg g v s) g = v) ∧
    (∀ r, r ≠ g → readReg (setReg g v s) r = readReg s r) ∧
    (flagsIn s.params g = none → (setReg g v s).flags = s.flags) ∧
    (∀ a, flagsIn s.params g = some a → aliasFlags a (readReg s g) = s.flags ∧
      (setReg g v s).flags = aliasFlags a v) ∧
    (∀ (rs : List Reg) (e : Effects), flagsIn s.params g ≠ none → e.flags ≠ none →
      (e.write = some (g, v) ∧ s.lp = none) ∨ (e.write = none ∧ s.lp = some { reg := g, val := v }) →
      runEffects rs (.ok e) s = .refused (.writeCollision g)) ∧
    (∀ rs, afterAccess rs s t =
      { t with
        regs := (afterAccess rs s t).regs
        flags := (afterAccess rs s t).flags
        draws := (afterAccess rs s t).draws }) ∧
    (∀ rs, s.params.specialRegs = [] → afterAccess rs s t = t)

end
end

