-- ==== Sys2Proof/Laws/Memory.lean ====
section
/-! SUPPORT. Memory: every operation keeps the canonical form; a byte written reads back and no other byte
changes; the same for W. -/

namespace Sys2Proof.Machine

theorem Memory.wfFrom_mono {lo lo' : Nat} {m : Memory} (h : lo' ≤ lo) (hm : Memory.wfFrom lo m = true) :
    Memory.wfFrom lo' m = true := by
  cases m with
  | nil => rfl
  | cons x m =>
    simp only [Memory.wfFrom, Bool.and_eq_true, decide_eq_true_eq] at hm ⊢
    exact ⟨⟨⟨by omega, hm.1.1.2⟩, hm.1.2⟩, hm.2⟩

theorem Memory.readByte_below {lo : Nat} {m : Memory} (hm : Memory.wfFrom lo m = true) {a : Nat} (h : a < lo) :
    Memory.readByte m a = unlisted := by
  induction m generalizing lo with
  | nil => rfl
  | cons x m ih =>
    simp only [Memory.wfFrom, Bool.and_eq_true, decide_eq_true_eq] at hm
    rw [Memory.readByte, if_neg (by omega)]
    exact ih hm.2 (by omega)

theorem Memory.wfFrom_writeByte {lo : Nat} {m : Memory} (hm : Memory.wfFrom lo m = true) {a : Nat} (b : Byte)
    (hlo : lo ≤ a) (ha : a < 2 ^ 32) : Memory.wfFrom lo (Memory.writeByte m a b) = true := by
  induction m generalizing lo with
  | nil => unfold Memory.writeByte; split <;> simp_all [Memory.wfFrom]
  | cons x m ih =>
    obtain ⟨y, c⟩ := x
    simp only [Memory.wfFrom, Bool.and_eq_true, decide_eq_true_eq] at hm
    unfold Memory.writeByte
    split
    · split
      · simp only [Memory.wfFrom, Bool.and_eq_true, decide_eq_true_eq]; exact hm
      · simp_all [Memory.wfFrom]
    · split
      · split
        · exact Memory.wfFrom_mono (by omega) hm.2
        · simp_all [Memory.wfFrom]
      · simp only [Memory.wfFrom, Bool.and_eq_true, decide_eq_true_eq]
        exact ⟨hm.1, ih hm.2 (by omega)⟩

theorem Memory.wf_writeByte {m : Memory} (hm : Memory.wf m = true) {a : Nat} (b : Byte) (ha : a < 2 ^ 32) :
    Memory.wf (Memory.writeByte m a b) = true := Memory.wfFrom_writeByte hm b (Nat.zero_le a) ha

theorem Memory.wf_writeBytes {m : Memory} (hm : Memory.wf m = true) (a : Word) (bs : List Byte) :
    Memory.wf (Memory.writeBytes m a bs) = true := by
  induction bs generalizing m a with
  | nil => exact hm
  | cons b bs ih => exact ih (Memory.wf_writeByte hm b a.isLt) _

theorem Memory.wf_canon (l : List Host.Cell) : Memory.wf (Memory.canon l) = true := by
  induction l with
  | nil => rfl
  | cons x l ih => exact Memory.wf_writeByte ih _ (Nat.mod_lt _ (by decide))

theorem Memory.wf_reset : Memory.wf State.reset.mem = true := rfl

theorem Memory.readByte_writeByte_same {lo : Nat} {m : Memory} (hm : Memory.wfFrom lo m = true) (a : Nat)
    (b : Byte) : Memory.readByte (Memory.writeByte m a b) a = b := by
  induction m generalizing lo with
  | nil => unfold Memory.writeByte; split <;> simp_all [Memory.readByte]
  | cons x m ih =>
    obtain ⟨y, c⟩ := x
    simp only [Memory.wfFrom, Bool.and_eq_true, decide_eq_true_eq] at hm
    unfold Memory.writeByte
    split
    · split
      · rename_i h1 h2
        rw [Memory.readByte, if_neg (by omega), Memory.readByte_below hm.2 (by omega), h2]
      · simp [Memory.readByte]
    · split
      · split
        · rename_i h1 h2 h3
          rw [Memory.readByte_below hm.2 (by omega), h3]
        · simp [Memory.readByte]
      · rw [Memory.readByte, if_neg (by omega)]
        exact ih hm.2

theorem Memory.readByte_writeByte_other (m : Memory) {a x : Nat} (b : Byte) (h : x ≠ a) :
    Memory.readByte (Memory.writeByte m a b) x = Memory.readByte m x := by
  induction m with
  | nil => unfold Memory.writeByte; split <;> simp [Memory.readByte, Ne.symm h]
  | cons y m ih =>
    obtain ⟨y, c⟩ := y
    unfold Memory.writeByte
    split
    · split
      · rfl
      · simp [Memory.readByte, Ne.symm h]
    · split
      · split
        · rename_i h1 h2 h3
          subst h2; simp [Memory.readByte, Ne.symm h]
        · rename_i h1 h2 h3
          subst h2; simp [Memory.readByte, Ne.symm h]
      · simp only [Memory.readByte, ih]

/-- The addresses `a`, `a + 1`, … as `writeBytes` walks them. -/
theorem word_add_ofNat_succ (a : Word) (j : Nat) :
    a + BitVec.ofNat 32 (j + 1) = a + 1#32 + BitVec.ofNat 32 j := by
  apply BitVec.eq_of_toNat_eq
  simp only [BitVec.toNat_add, BitVec.toNat_ofNat]
  omega

theorem Memory.readByte_writeBytes_other (m : Memory) (a : Word) (bs : List Byte) {x : Nat}
    (h : ∀ j, j < bs.length → x ≠ (a + BitVec.ofNat 32 j).toNat) :
    Memory.readByte (Memory.writeBytes m a bs) x = Memory.readByte m x := by
  induction bs generalizing m a with
  | nil => rfl
  | cons b bs ih =>
    rw [Memory.writeBytes, ih]
    · exact Memory.readByte_writeByte_other _ _ (by simpa using h 0 (by simp))
    · intro j hj
      rw [← word_add_ofNat_succ]
      exact h (j + 1) (by simpa using hj)

theorem word_add_ofNat_ne (a : Word) {j : Nat} (h0 : 0 < j) (h : j < 2 ^ 32) :
    a.toNat ≠ (a + BitVec.ofNat 32 j).toNat := by
  simp only [BitVec.toNat_add, BitVec.toNat_ofNat]
  omega

/-- What was written reads back, as long as the bytes do not go round the address space. -/
theorem Memory.readBytes_writeBytes {m : Memory} (hm : Memory.wf m = true) (a : Word) (bs : List Byte)
    (h : bs.length ≤ 2 ^ 32) : Memory.readBytes (Memory.writeBytes m a bs) a bs.length = bs := by
  induction bs generalizing m a with
  | nil => rfl
  | cons b bs ih =>
    have hl : bs.length + 1 ≤ 2 ^ 32 := by simpa using h
    rw [List.length_cons, Memory.readBytes, Memory.writeBytes]
    congr 1
    · rw [Memory.readByte_writeBytes_other]
      · exact Memory.readByte_writeByte_same hm _ _
      · intro j hj
        rw [← word_add_ofNat_succ]
        exact word_add_ofNat_ne a (by omega) (by omega)
    · exact ih (Memory.wf_writeByte hm b a.isLt) _ (by omega)

/-! ## W -/

theorem mem_addAddr {w : List Nat} {a x : Nat} : x ∈ addAddr w a ↔ x ∈ w ∨ x = a := by
  induction w with
  | nil => simp [addAddr]
  | cons y w ih =>
    unfold addAddr
    split
    · simp only [List.mem_cons]; tauto
    · split
      · rename_i h; subst h; simp only [List.mem_cons]; tauto
      · simp only [List.mem_cons, ih]; tauto

theorem mem_addStored {w : List Nat} {a : Word} {n x : Nat} :
    x ∈ addStored w a n ↔ x ∈ w ∨ ∃ j, j < n ∧ x = (a + BitVec.ofNat 32 j).toNat := by
  induction n generalizing w a with
  | zero => simp [addStored]
  | succ n ih =>
    rw [addStored, ih, mem_addAddr]
    constructor
    · rintro ((h | h) | ⟨j, hj, h⟩)
      · exact .inl h
      · exact .inr ⟨0, by omega, by simpa using h⟩
      · exact .inr ⟨j + 1, by omega, by rw [word_add_ofNat_succ]; exact h⟩
    · rintro (h | ⟨j, hj, h⟩)
      · exact .inl (.inl h)
      · cases j with
        | zero => exact .inl (.inr (by simpa using h))
        | succ j => exact .inr ⟨j, by omega, by rw [← word_add_ofNat_succ]; exact h⟩

theorem mem_addAll {w as : List Nat} {x : Nat} (h : x ∈ w) : x ∈ addAll w as := by
  induction as with
  | nil => exact h
  | cons a as ih => exact mem_addAddr.2 (.inl ih)

theorem addrsFrom_mono {lo lo' : Nat} {w : List Nat} (h : lo' ≤ lo) (hw : addrsFrom lo w = true) :
    addrsFrom lo' w = true := by
  cases w with
  | nil => rfl
  | cons x w =>
    simp only [addrsFrom, Bool.and_eq_true, decide_eq_true_eq] at hw ⊢
    exact ⟨⟨by omega, hw.1.2⟩, hw.2⟩

theorem addrsFrom_addAddr {lo : Nat} {w : List Nat} (hw : addrsFrom lo w = true) {a : Nat} (hlo : lo ≤ a)
    (ha : a < 2 ^ 32) : addrsFrom lo (addAddr w a) = true := by
  induction w generalizing lo with
  | nil => simp_all [addAddr, addrsFrom]
  | cons x w ih =>
    simp only [addrsFrom, Bool.and_eq_true, decide_eq_true_eq] at hw
    unfold addAddr
    split
    · simp_all [addrsFrom]
    · split
      · simp_all [addrsFrom]
      · simp only [addrsFrom, Bool.and_eq_true, decide_eq_true_eq]
        exact ⟨hw.1, ih hw.2 (by omega)⟩

theorem storedWf_addAddr {w : List Nat} (hw : storedWf w = true) {a : Nat} (ha : a < 2 ^ 32) :
    storedWf (addAddr w a) = true := addrsFrom_addAddr hw (Nat.zero_le a) ha

theorem storedWf_addStored {w : List Nat} (hw : storedWf w = true) (a : Word) (n : Nat) :
    storedWf (addStored w a n) = true := by
  induction n generalizing w a with
  | zero => exact hw
  | succ n ih => exact ih (storedWf_addAddr hw a.isLt) _

theorem storedWf_addAll {w : List Nat} (hw : storedWf w = true) (as : List Nat) :
    storedWf (addAll w as) = true := by
  induction as with
  | nil => exact hw
  | cons a as ih => exact storedWf_addAddr ih (Nat.mod_lt _ (by decide))


theorem storedWf_reset : storedWf State.reset.stored = true := rfl

end Sys2Proof.Machine
end

