-- ==== Sys2Proof/Laws/Registers.lean ====
section
/-! SUPPORT. What reading, writing and accessing a numbered register can do, cited instead of unfolding
`readReg`, `setReg` and `afterAccess`. -/

namespace Sys2Proof.Machine

/-! ## Register numbers -/

theorem gpr?_eq_none {r : Reg} : gpr? r = none ↔ r = 2#5 ∨ r = 31#5 := by
  revert r; decide

@[simp] theorem gpr?_gprNumber (g : Gpr) : gpr? (gprNumber g) = some g := by
  revert g; decide

theorem gprNumber_inj {g h : Gpr} (e : gprNumber g = gprNumber h) : g = h := by
  have := congrArg gpr? e
  simpa using this

/-! ## The flags at their places in a value -/

theorem getLsbD_withBit (v : Word) (n : Fin 32) (b : Bool) (i : Nat) :
    (withBit v n b).getLsbD i = if i = n.val then b else v.getLsbD i := by
  have h : (1#32 <<< n.val).getLsbD i = decide (i = n.val) := by
    have := n.isLt
    rw [BitVec.getLsbD_shiftLeft, BitVec.getLsbD_one]
    by_cases e : i = n.val
    · simp [e]
    · simp only [e, decide_false]
      by_cases l : i < n.val <;> simp [l]; omega
  have hn := n.isLt
  unfold withBit
  cases b
  · by_cases hi : i < 32
    · simp only [Bool.false_eq_true, if_false, BitVec.getLsbD_and, BitVec.getLsbD_not, h, hi]
      by_cases e : i = n.val <;> simp [e]
    · have e : ¬ i = n.val := by omega
      simp [e, hi, BitVec.getLsbD_of_ge v i (by omega)]
  · simp only [if_true, BitVec.getLsbD_or, h]
    by_cases e : i = n.val <;> simp [e]

theorem getLsbD_aliasInsert (a : FlagsAlias) (f : Flags) (v : Word) (i : Nat) :
    (aliasInsert a f v).getLsbD i = if i = a.c.val then f.c else if i = a.v.val then f.v else
      if i = a.n.val then f.n else if i = a.z.val then f.z else v.getLsbD i := by
  simp only [aliasInsert, getLsbD_withBit]

theorem word_eq_of_getLsbD {x y : Word} (h : ∀ i, x.getLsbD i = y.getLsbD i) : x = y :=
  BitVec.eq_of_getLsbD_eq (fun i _ => h i)

theorem aliasFlags_aliasInsert {a : FlagsAlias} (h : a.distinct = true) (f : Flags) (v : Word) :
    aliasFlags a (aliasInsert a f v) = f := by
  simp only [FlagsAlias.distinct, List.nodup_cons, List.mem_cons, List.not_mem_nil, or_false, not_or,
    decide_eq_true_eq, Fin.ext_iff] at h
  simp only [aliasFlags, getLsbD_aliasInsert]
  simp [h]

theorem aliasInsert_aliasFlags (a : FlagsAlias) (v : Word) : aliasInsert a (aliasFlags a v) v = v := by
  apply word_eq_of_getLsbD
  intro i
  simp only [getLsbD_aliasInsert, aliasFlags]
  split <;> (try split) <;> (try split) <;> (try split) <;> simp [*]

theorem aliasInsert_aliasInsert (a : FlagsAlias) (f g : Flags) (v : Word) :
    aliasInsert a f (aliasInsert a g v) = aliasInsert a f v := by
  apply word_eq_of_getLsbD
  intro i
  simp only [getLsbD_aliasInsert]
  split <;> (try split) <;> (try split) <;> (try split) <;> simp [*]

/-! ## The two open parameters -/

/-- The flags' register is no special register, its places are four, and there is one at most. -/
theorem flagsIn_eq_some {p : Params} {g : Gpr} {a : FlagsAlias} (h : flagsIn p g = some a) :
    p.flagsAlias = some a ∧ a.reg = gprNumber g ∧ a.distinct = true ∧ behaviour p g = none := by
  simpa [flagsIn, Option.filter_eq_some_iff, and_assoc] using h

theorem flagsIn_unique {p : Params} {g h : Gpr} {a b : FlagsAlias} (hg : flagsIn p g = some a)
    (hh : flagsIn p h = some b) : g = h := by
  obtain ⟨h1, h2, -, -⟩ := flagsIn_eq_some hg
  obtain ⟨h3, h4, -, -⟩ := flagsIn_eq_some hh
  have e : a = b := Option.some_inj.1 (h1.symm.trans h3)
  exact gprNumber_inj (h2.symm.trans ((congrArg FlagsAlias.reg e).trans h4))

/-! ## A write -/

@[simp] theorem setReg_isr (g : Gpr) (v : Word) (s : State) : (setReg g v s).isr = s.isr := by
  unfold setReg; split <;> (try split) <;> rfl

@[simp] theorem setReg_cia (g : Gpr) (v : Word) (s : State) : (setReg g v s).cia = s.cia := by
  unfold setReg; split <;> (try split) <;> rfl

@[simp] theorem setReg_nia (g : Gpr) (v : Word) (s : State) : (setReg g v s).nia = s.nia := by
  unfold setReg; split <;> (try split) <;> rfl

@[simp] theorem setReg_js (g : Gpr) (v : Word) (s : State) : (setReg g v s).js = s.js := by
  unfold setReg; split <;> (try split) <;> rfl

@[simp] theorem setReg_lp (g : Gpr) (v : Word) (s : State) : (setReg g v s).lp = s.lp := by
  unfold setReg; split <;> (try split) <;> rfl

@[simp] theorem setReg_ctx (g : Gpr) (v : Word) (s : State) : (setReg g v s).ctx = s.ctx := by
  unfold setReg; split <;> (try split) <;> rfl

@[simp] theorem setReg_alt (g : Gpr) (v : Word) (s : State) : (setReg g v s).alt = s.alt := by
  unfold setReg; split <;> (try split) <;> rfl

@[simp] theorem setReg_mem (g : Gpr) (v : Word) (s : State) : (setReg g v s).mem = s.mem := by
  unfold setReg; split <;> (try split) <;> rfl

@[simp] theorem setReg_stored (g : Gpr) (v : Word) (s : State) : (setReg g v s).stored = s.stored := by
  unfold setReg; split <;> (try split) <;> rfl

@[simp] theorem setReg_params (g : Gpr) (v : Word) (s : State) : (setReg g v s).params = s.params := by
  unfold setReg; split <;> (try split) <;> rfl

@[simp] theorem setReg_draws (g : Gpr) (v : Word) (s : State) : (setReg g v s).draws = s.draws := by
  unfold setReg; split <;> (try split) <;> rfl

/-- A write changes the registers and the flags alone. -/
theorem setReg_eq (g : Gpr) (v : Word) (s : State) :
    setReg g v s = { s with regs := (setReg g v s).regs, flags := (setReg g v s).flags } := by
  unfold setReg; split <;> (try split) <;> rfl

/-- A write does not depend on anything but the registers, the flags and the parameters. -/
theorem setReg_local (g : Gpr) (v : Word) (s : State) (r a b : Word) (js c : Bool) (lp : Option Late) (al : List Word)
    (m : Memory) (w : List Nat) (d : Nat) :
    setReg g v { s with
      isr := r, cia := a, nia := b, js := js, lp := lp, ctx := c, alt := al, mem := m, stored := w, draws := d } =
    { setReg g v s with
      isr := r, cia := a, nia := b, js := js, lp := lp, ctx := c, alt := al, mem := m, stored := w, draws := d } := by
  unfold setReg
  cases behaviour s.params g with
  | some x => cases x <;> rfl
  | none => cases flagsIn s.params g <;> rfl

/-- Only the write of the flags' register changes the flags. -/
theorem setReg_flags {g : Gpr} {v : Word} {s : State} (h : flagsIn s.params g = none) :
    (setReg g v s).flags = s.flags := by
  unfold setReg
  rw [h]
  split <;> rfl

/-- A write leaves the storage of every other register. -/
theorem setReg_get_other {g r : Gpr} (h : r ≠ g) (v : Word) (s : State) :
    (setReg g v s).regs.get r = s.regs.get r := by
  have : ¬ g.val = r.val := fun e => h (Fin.ext e.symm)
  unfold setReg
  split <;> (try split) <;> simp [Vector.get_eq_getElem, this]

/-- A write leaves the value of every other register. -/
theorem readReg_setReg_other {g r : Gpr} (h : r ≠ g) (v : Word) (s : State) :
    readReg (setReg g v s) r = readReg s r := by
  unfold readReg
  rw [setReg_params, setReg_draws, setReg_get_other h]
  split
  · rfl
  · rfl
  · split
    · rename_i a ha
      have : flagsIn s.params g = none := by
        cases hg : flagsIn s.params g with
        | none => rfl
        | some b => exact absurd (flagsIn_unique ha hg) h
      rw [setReg_flags this]
    · rfl

/-- A register without a special behaviour, the flags' register included, reads as it was written. -/
theorem readReg_setReg {g : Gpr} {v : Word} {s : State} (h : behaviour s.params g = none) :
    readReg (setReg g v s) g = v := by
  unfold readReg
  rw [setReg_params]
  simp only [h, setReg]
  cases ha : flagsIn s.params g with
  | none => simp [Vector.get_eq_getElem]
  | some a => simp [Vector.get_eq_getElem, aliasInsert_aliasInsert, aliasInsert_aliasFlags]

/-- A hardwired register reads as its constant, and what is written to it is discarded. -/
theorem hardwired_spec {g : Gpr} {w : Word} {s : State} (h : behaviour s.params g = some (.hardwired w)) :
    readReg s g = w ∧ ∀ v, setReg g v s = s := by
  simp [readReg, setReg, h]

/-- Writing a register its own value changes nothing, where reading it is no side effect. -/
theorem setReg_readReg {g : Gpr} {s : State} (h : behaviour s.params g ≠ some .sideEffect) :
    setReg g (readReg s g) s = s := by
  unfold setReg readReg
  cases hb : behaviour s.params g with
  | some b => cases b <;> simp_all
  | none =>
    cases ha : flagsIn s.params g with
    | none => simp [Vector.get_eq_getElem]
    | some a =>
      obtain ⟨-, -, hd, -⟩ := flagsIn_eq_some ha
      simp [aliasInsert_aliasInsert, aliasInsert_aliasFlags, aliasFlags_aliasInsert hd, Vector.get_eq_getElem]

/-- Of two writes to one register the second counts. -/
theorem setReg_setReg (g : Gpr) (v w : Word) (s : State) : setReg g w (setReg g v s) = setReg g w s := by
  unfold setReg
  cases hb : behaviour s.params g with
  | some b => cases b <;> simp [hb]
  | none =>
    cases ha : flagsIn s.params g with
    | none => simp [hb, ha]
    | some a =>
      obtain ⟨-, -, hd, -⟩ := flagsIn_eq_some ha
      simp [hb, ha, Vector.get_eq_getElem, aliasFlags_aliasInsert hd]

/-- Writes to two registers may change places. -/
theorem setReg_comm {g r : Gpr} (h : r ≠ g) (v w : Word) (s : State) :
    setReg g v (setReg r w s) = setReg r w (setReg g v s) := by
  have hv : ¬ r.val = g.val := fun e => h (Fin.ext e)
  have hv' : ¬ g.val = r.val := fun e => hv e.symm
  have get1 : ∀ x, (s.regs.set r.val x r.isLt).get g = s.regs.get g := fun x => by
    simp [Vector.get_eq_getElem, hv]
  have get2 : ∀ x, (s.regs.set g.val x g.isLt).get r = s.regs.get r := fun x => by
    simp [Vector.get_eq_getElem, hv']
  unfold setReg
  cases hb : behaviour s.params g with
  | some b => cases b <;> cases behaviour s.params r with
    | some c => cases c <;> simp [hb, Vector.set_comm _ _ hv]
    | none => cases flagsIn s.params r <;> simp [hb, get2, Vector.set_comm _ _ hv]
  | none => cases ha : flagsIn s.params g with
    | none => cases behaviour s.params r with
      | some c => cases c <;> simp [hb, ha, Vector.set_comm _ _ hv]
      | none => cases flagsIn s.params r <;> simp [hb, ha, get2, Vector.set_comm _ _ hv]
    | some a => cases behaviour s.params r with
      | some c => cases c <;> simp [hb, ha, get1, Vector.set_comm _ _ hv]
      | none => cases hf : flagsIn s.params r with
        | none => simp [hb, ha, get1, Vector.set_comm _ _ hv]
        | some b => exact absurd (flagsIn_unique hf ha) h

/-! ## Accesses with a side effect -/

@[simp] theorem afterAccess_isr (rs : List Reg) (s t : State) : (afterAccess rs s t).isr = t.isr := by
  unfold afterAccess; split <;> rfl

@[simp] theorem afterAccess_cia (rs : List Reg) (s t : State) : (afterAccess rs s t).cia = t.cia := by
  unfold afterAccess; split <;> rfl

@[simp] theorem afterAccess_nia (rs : List Reg) (s t : State) : (afterAccess rs s t).nia = t.nia := by
  unfold afterAccess; split <;> rfl

@[simp] theorem afterAccess_js (rs : List Reg) (s t : State) : (afterAccess rs s t).js = t.js := by
  unfold afterAccess; split <;> rfl

@[simp] theorem afterAccess_lp (rs : List Reg) (s t : State) : (afterAccess rs s t).lp = t.lp := by
  unfold afterAccess; split <;> rfl

@[simp] theorem afterAccess_ctx (rs : List Reg) (s t : State) : (afterAccess rs s t).ctx = t.ctx := by
  unfold afterAccess; split <;> rfl

@[simp] theorem afterAccess_alt (rs : List Reg) (s t : State) : (afterAccess rs s t).alt = t.alt := by
  unfold afterAccess; split <;> rfl

@[simp] theorem afterAccess_mem (rs : List Reg) (s t : State) : (afterAccess rs s t).mem = t.mem := by
  unfold afterAccess; split <;> rfl

@[simp] theorem afterAccess_stored (rs : List Reg) (s t : State) : (afterAccess rs s t).stored = t.stored := by
  unfold afterAccess; split <;> rfl

@[simp] theorem afterAccess_params (rs : List Reg) (s t : State) : (afterAccess rs s t).params = t.params := by
  unfold afterAccess; split <;> rfl

/-- Without a side effect an access changes nothing. -/
theorem afterAccess_quiet {rs : List Reg} {s : State} (h : touches s rs = false) (t : State) :
    afterAccess rs s t = t := by
  simp [afterAccess, h]

/-- At the spec's default, plain storage, no access has a side effect. -/
theorem touches_default {s : State} (h : s.params.specialRegs = []) (rs : List Reg) : touches s rs = false := by
  have hb : ∀ g, behaviour s.params g = none := fun g => by simp [behaviour, h]
  have he : ∀ r, hasSideEffect s.params r = false := fun r => by
    unfold hasSideEffect
    split
    · rw [hb]; rfl
    · rfl
  have ha : rs.any (hasSideEffect s.params) = false := by simp [he]
  unfold touches
  rw [ha]
  split
  · exact he _
  · rfl

end Sys2Proof.Machine
end

