-- ==== Sys2Proof/Laws/State.lean ====
section
/-! SUPPORT. What each record update of the state leaves in each field, by `rfl`, so that no proof unfolds an
update. -/

namespace Sys2Proof.Machine

@[simp] theorem applyEffects_regs (e : Effects) (s : State) : (applyEffects e s).regs = (writeOut e.write (landed s)).regs := rfl

@[simp] theorem applyEffects_isr (e : Effects) (s : State) : (applyEffects e s).isr = s.isr := rfl

@[simp] theorem applyEffects_flags (e : Effects) (s : State) : (applyEffects e s).flags = e.flags.getD (writeOut e.write (landed s)).flags := rfl

@[simp] theorem applyEffects_cia (e : Effects) (s : State) : (applyEffects e s).cia = s.nia := rfl

@[simp] theorem applyEffects_nia (e : Effects) (s : State) : (applyEffects e s).nia = e.jump.getD (s.nia + 4#32) := rfl

@[simp] theorem applyEffects_js (e : Effects) (s : State) : (applyEffects e s).js = e.jump.isSome := rfl

@[simp] theorem applyEffects_lp (e : Effects) (s : State) : (applyEffects e s).lp = e.late := rfl

@[simp] theorem applyEffects_ctx (e : Effects) (s : State) : (applyEffects e s).ctx = s.ctx := rfl

@[simp] theorem applyEffects_alt (e : Effects) (s : State) : (applyEffects e s).alt = s.alt := rfl

@[simp] theorem applyEffects_mem (e : Effects) (s : State) : (applyEffects e s).mem = memAfter e.store s := rfl

@[simp] theorem applyEffects_stored (e : Effects) (s : State) : (applyEffects e s).stored = storedAfter e.store s := rfl

@[simp] theorem applyEffects_params (e : Effects) (s : State) : (applyEffects e s).params = s.params := rfl

@[simp] theorem applyEffects_draws (e : Effects) (s : State) : (applyEffects e s).draws = if e.drew then s.draws + 1 else s.draws := rfl

@[simp] theorem fallThrough_regs (s : State) : (fallThrough s).regs = (landed s).regs := rfl

@[simp] theorem fallThrough_isr (s : State) : (fallThrough s).isr = s.isr := rfl

@[simp] theorem fallThrough_flags (s : State) : (fallThrough s).flags = (landed s).flags := rfl

@[simp] theorem fallThrough_cia (s : State) : (fallThrough s).cia = s.nia := rfl

@[simp] theorem fallThrough_nia (s : State) : (fallThrough s).nia = s.nia + 4#32 := rfl

@[simp] theorem fallThrough_js (s : State) : (fallThrough s).js = false := rfl

@[simp] theorem fallThrough_lp (s : State) : (fallThrough s).lp = none := rfl

@[simp] theorem fallThrough_ctx (s : State) : (fallThrough s).ctx = s.ctx := rfl

@[simp] theorem fallThrough_alt (s : State) : (fallThrough s).alt = s.alt := rfl

@[simp] theorem fallThrough_mem (s : State) : (fallThrough s).mem = s.mem := rfl

@[simp] theorem fallThrough_stored (s : State) : (fallThrough s).stored = s.stored := rfl

@[simp] theorem fallThrough_params (s : State) : (fallThrough s).params = s.params := rfl

@[simp] theorem fallThrough_draws (s : State) : (fallThrough s).draws = s.draws := rfl

@[simp] theorem afterSwitch_regs (s raw : State) : (afterSwitch s raw).regs = raw.regs := rfl

@[simp] theorem afterSwitch_isr (s raw : State) : (afterSwitch s raw).isr = raw.isr := rfl

@[simp] theorem afterSwitch_flags (s raw : State) : (afterSwitch s raw).flags = raw.flags := rfl

@[simp] theorem afterSwitch_cia (s raw : State) : (afterSwitch s raw).cia = wordAddr raw.cia := rfl

@[simp] theorem afterSwitch_nia (s raw : State) : (afterSwitch s raw).nia = wordAddr raw.nia := rfl

@[simp] theorem afterSwitch_js (s raw : State) : (afterSwitch s raw).js = raw.js := rfl

@[simp] theorem afterSwitch_lp (s raw : State) : (afterSwitch s raw).lp = none := rfl

@[simp] theorem afterSwitch_ctx (s raw : State) : (afterSwitch s raw).ctx = !s.ctx := rfl

@[simp] theorem afterSwitch_alt (s raw : State) : (afterSwitch s raw).alt = raw.alt := rfl

@[simp] theorem afterSwitch_mem (s raw : State) : (afterSwitch s raw).mem = Memory.canon raw.mem := rfl

@[simp] theorem afterSwitch_stored (s raw : State) : (afterSwitch s raw).stored = addAll s.stored raw.stored := rfl

@[simp] theorem afterSwitch_params (s raw : State) : (afterSwitch s raw).params = s.params := rfl

@[simp] theorem afterSwitch_draws (s raw : State) : (afterSwitch s raw).draws = s.draws := rfl

@[simp] theorem placeWord_regs (s : State) (w : Word) : (placeWord s w).regs = s.regs := rfl

@[simp] theorem placeWord_isr (s : State) (w : Word) : (placeWord s w).isr = s.isr := rfl

@[simp] theorem placeWord_flags (s : State) (w : Word) : (placeWord s w).flags = s.flags := rfl

@[simp] theorem placeWord_cia (s : State) (w : Word) : (placeWord s w).cia = s.cia := rfl

@[simp] theorem placeWord_nia (s : State) (w : Word) : (placeWord s w).nia = s.nia := rfl

@[simp] theorem placeWord_js (s : State) (w : Word) : (placeWord s w).js = s.js := rfl

@[simp] theorem placeWord_lp (s : State) (w : Word) : (placeWord s w).lp = s.lp := rfl

@[simp] theorem placeWord_ctx (s : State) (w : Word) : (placeWord s w).ctx = s.ctx := rfl

@[simp] theorem placeWord_alt (s : State) (w : Word) : (placeWord s w).alt = s.alt := rfl

@[simp] theorem placeWord_mem (s : State) (w : Word) : (placeWord s w).mem = Memory.writeBytes s.mem s.cia (bytesOf s.params.endian 4 w) := rfl

@[simp] theorem placeWord_stored (s : State) (w : Word) : (placeWord s w).stored = dropStored s.stored s.cia 4 := rfl

@[simp] theorem placeWord_draws (s : State) (w : Word) : (placeWord s w).draws = s.draws := rfl

end Sys2Proof.Machine
end

