-- ==== Sys2Proof/Laws/Ops.lean ====
section
/-! SUPPORT. One lemma per shared operation that says what it can do, cited instead of unfolding it; and
`exec_eq_execForm`, by which a claim about all 210 instructions is a case split over eleven formats. -/

namespace Sys2Proof.Machine

open Host (Outcome)

/-! ## Computations and outcomes -/

@[simp] theorem except_bind_ok {ε α β : Type} (a : α) (f : α → Except ε β) :
    (Except.ok a >>= f) = f a := rfl

@[simp] theorem except_bind_error {ε α β : Type} (e : ε) (f : α → Except ε β) :
    (Except.error e >>= f) = Except.error e := rfl

@[simp] theorem except_pure {ε α : Type} (a : α) : (pure a : Except ε α) = Except.ok a := rfl

theorem except_bind_eq_ok {ε α β : Type} {x : Except ε α} {f : α → Except ε β} {b : β}
    (h : (x >>= f) = Except.ok b) : ∃ a, x = .ok a ∧ f a = .ok b := by
  cases x with
  | ok a => exact ⟨a, rfl, h⟩
  | error e => cases h

@[simp] theorem outcome_ok (s : State) : outcome (.ok s) = .next s := rfl

@[simp] theorem outcome_error (r : Refusal) : outcome (.error r) = .refused r := rfl

theorem outcome_eq_next {x : Except Refusal State} {t : State} : outcome x = .next t ↔ x = .ok t := by
  cases x <;> simp [outcome]

/-- No computation ends in a fault: there are none. -/
theorem outcome_ne_fault (x : Except Refusal State) (f : Fault) : outcome x ≠ .fault f := nomatch f

@[simp] theorem runEffects_error (rs : List Reg) (r : Refusal) (s : State) :
    runEffects rs (.error r) s = .refused r := rfl

@[simp] theorem runEffects_ok (rs : List Reg) (e : Effects) (s : State) :
    runEffects rs (.ok e) s = outcome (commit rs e s) := rfl

/-! ## The end of a step -/

theorem meeting_eq_none {w : Option (Gpr × Word)} {s : State} :
    meeting w s = none ↔ ∀ g v l, w = some (g, v) → s.lp = some l → l.reg ≠ g := by
  rcases w with _ | ⟨g, v⟩ <;> rcases h : s.lp with _ | l <;> simp [meeting, h, eq_comm]

/-- The flags are written once: by their update, or as bits of a register that is written or landed on. -/
theorem flagMeeting_eq_none {e : Effects} {s : State} : flagMeeting e s = none ↔ (e.flags.isSome = true →
    (∀ g v, e.write = some (g, v) → flagsIn s.params g = none) ∧
      ∀ l, s.lp = some l → flagsIn s.params l.reg = none) := by
  unfold flagMeeting
  cases e.flags with
  | none => simp
  | some f => rcases e.write with _ | ⟨g, v⟩ <;> rcases s.lp with _ | l <;> simp [Option.or_eq_none_iff]

theorem collision_eq_none {e : Effects} {s : State} :
    collision e s = none ↔ meeting e.write s = none ∧ flagMeeting e s = none := by
  simp [collision, Option.or_eq_none_iff]

/-- Without a flag update a collision is that of the late value. -/
theorem collision_of_no_flags {e : Effects} (h : e.flags = none) (s : State) : collision e s = meeting e.write s := by
  simp [collision, flagMeeting, h]

/-- The checks of a jump pass exactly where it goes to a multiple of 4 and stands in no shadow. -/
theorem checkJump_eq_ok {j : Option Word} {s : State} :
    checkJump j s = .ok () ↔ ∀ t, j = some t → aligned4 t = true ∧ s.js = false := by
  rcases j with _ | t
  · simp [checkJump]
  · cases h : aligned4 t <;> cases hs : s.js <;> simp [checkJump, h, hs]

/-- `commit` answers a state exactly where no two writes meet and no jump fails its checks. -/
theorem commit_eq_ok {rs : List Reg} {e : Effects} {s t : State} : commit rs e s = .ok t ↔
    collision e s = none ∧ (∀ u, e.jump = some u → aligned4 u = true ∧ s.js = false) ∧
      t = afterAccess rs s (applyEffects e s) := by
  rw [← checkJump_eq_ok]
  unfold commit
  rcases collision e s with _ | g
  · cases checkJump e.jump s <;> simp [eq_comm]
  · simp

theorem runEffects_eq_next {rs : List Reg} {x : Except Refusal Effects} {s t : State} :
    runEffects rs x s = .next t ↔ ∃ e, x = .ok e ∧ collision e s = none ∧
      (∀ u, e.jump = some u → aligned4 u = true ∧ s.js = false) ∧ t = afterAccess rs s (applyEffects e s) := by
  cases x with
  | error e => simp
  | ok e => simp [outcome_eq_next, commit_eq_ok]

theorem runEffects_collision {rs : List Reg} {e : Effects} {s : State} {g : Gpr} (h : collision e s = some g) :
    runEffects rs (.ok e) s = .refused (.writeCollision g) := by
  simp [commit, h]

theorem runEffects_misaligned {rs : List Reg} {e : Effects} {s : State} {t : Word} (h : collision e s = none)
    (hj : e.jump = some t) (ha : aligned4 t = false) : runEffects rs (.ok e) s = .refused (.misalignedTarget t) := by
  simp [commit, checkJump, h, hj, ha]

theorem runEffects_shadow {rs : List Reg} {e : Effects} {s : State} {t : Word} (h : collision e s = none)
    (hj : e.jump = some t) (ha : aligned4 t = true) (hs : s.js = true) :
    runEffects rs (.ok e) s = .refused (.jumpInShadow s.cia) := by
  simp [commit, checkJump, h, hj, ha, hs]

/-! ## Registers -/

theorem source_plain {field : RegField} {r : Reg} {s : State} {g : Gpr} (h : gpr? r = some g) :
    source field r s = .ok (readReg s g) := by
  simp [source, h]

theorem source_readable {field : RegField} {r : Reg} {s : State} (h : r ≠ 31#5) :
    source field r s = .ok (regValue r s) := by
  unfold source regValue
  cases hg : gpr? r with
  | some g => rfl
  | none => rcases gpr?_eq_none.1 hg with h2 | h2 <;> simp_all

theorem source_isr (field : RegField) (s : State) : source field 31#5 s = .error (.isrAccess field) := rfl

/-- The landing changes the registers and the flags alone. -/
theorem landed_eq (s : State) : landed s = { s with regs := (landed s).regs, flags := (landed s).flags } := by
  unfold landed
  split
  · exact setReg_eq _ _ _
  · rfl

@[simp] theorem landed_params (s : State) : (landed s).params = s.params := by
  unfold landed; split <;> simp

/-- A register on which no value lands keeps its storage. -/
theorem landed_get {s : State} {r : Gpr} (h : ∀ l, s.lp = some l → l.reg ≠ r) :
    (landed s).regs.get r = s.regs.get r := by
  unfold landed
  cases hl : s.lp with
  | none => rfl
  | some l => exact setReg_get_other (h l hl).symm _ _

/-- A register on which no value lands keeps its value. -/
theorem readReg_landed {s : State} {r : Gpr} (h : ∀ l, s.lp = some l → l.reg ≠ r) :
    readReg (landed s) r = readReg s r := by
  unfold landed
  cases hl : s.lp with
  | none => rfl
  | some l => exact readReg_setReg_other (h l hl).symm _ _

/-- The flags change by a landing on their register alone. -/
theorem landed_flags {s : State} (h : ∀ l, s.lp = some l → flagsIn s.params l.reg = none) :
    (landed s).flags = s.flags := by
  unfold landed
  cases hl : s.lp with
  | none => rfl
  | some l => exact setReg_flags (h l hl)

@[simp] theorem writeOut_params (w : Option (Gpr × Word)) (s : State) : (writeOut w s).params = s.params := by
  unfold writeOut; split <;> simp

/-- A write at time 2 keeps the value of every other register. -/
theorem readReg_writeOut {w : Option (Gpr × Word)} {s : State} {r : Gpr} (h : ∀ g v, w = some (g, v) → r ≠ g) :
    readReg (writeOut w s) r = readReg s r := by
  rcases w with _ | ⟨g, v⟩
  · rfl
  · exact readReg_setReg_other (h g v rfl) _ _

/-- A write at time 2 keeps the storage of every other register. -/
theorem writeOut_get {w : Option (Gpr × Word)} {s : State} {r : Gpr} (h : ∀ g v, w = some (g, v) → r ≠ g) :
    (writeOut w s).regs.get r = s.regs.get r := by
  rcases w with _ | ⟨g, v⟩
  · rfl
  · exact setReg_get_other (h g v rfl) _ _

/-- A write at time 2 changes the flags only where it is of their register. -/
theorem writeOut_flags {w : Option (Gpr × Word)} {s : State} (h : ∀ g v, w = some (g, v) → flagsIn s.params g = none) :
    (writeOut w s).flags = s.flags := by
  rcases w with _ | ⟨g, v⟩
  · rfl
  · exact setReg_flags (h g v rfl)

/-- A write, seen from the end of the step. -/
theorem setReg_fallThrough (g : Gpr) (v : Word) (s : State) : setReg g v (fallThrough s) = { fallThrough s with
    regs := (setReg g v (landed s)).regs, flags := (setReg g v (landed s)).flags } := by
  rw [show fallThrough s = { landed s with
    isr := s.isr, cia := s.nia, nia := s.nia + 4#32, js := false, lp := none, ctx := s.ctx, alt := s.alt, mem := s.mem,
    stored := s.stored, draws := s.draws } by unfold fallThrough; congr 1; exact (landed_params s).symm, setReg_local,
    setReg_eq]

/-! ## Memory access -/

theorem checkAccess_ok {a : Word} {n : Nat} {s : State} (ha : a.toNat % n = 0)
    (hv : memValid s.params a n = true) : checkAccess a n s = .ok () := by
  simp [checkAccess, ha, hv]

theorem memRead_ok {a : Word} {n : Nat} {s : State} (ha : a.toNat % n = 0)
    (hv : memValid s.params a n = true) : memRead a n s = .ok (valueAt a n s) := by
  simp [memRead, checkAccess_ok ha hv]

theorem memWrite_ok {a : Word} {n : Nat} {v : Word} {s : State} (ha : a.toNat % n = 0)
    (hv : memValid s.params a n = true) :
    memWrite a n v s = .ok { addr := a, bytes := bytesOf s.params.endian n v } := by
  simp [memWrite, checkAccess_ok ha hv]

theorem memWrite_eq_ok {a : Word} {n : Nat} {v : Word} {s : State} {st : Store}
    (h : memWrite a n v s = .ok st) : a.toNat % n = 0 ∧ memValid s.params a n = true ∧
      st = { addr := a, bytes := bytesOf s.params.endian n v } := by
  unfold memWrite checkAccess at h
  split at h
  · cases h
  · split at h
    · cases h; rename_i h1 h2; exact ⟨by omega, h2, rfl⟩
    · cases h

theorem memRead_eq_ok {a : Word} {n : Nat} {v : Word} {s : State} (h : memRead a n s = .ok v) :
    a.toNat % n = 0 ∧ memValid s.params a n = true ∧ v = valueAt a n s := by
  unfold memRead checkAccess at h
  split at h
  · cases h
  · split at h
    · cases h; rename_i h1 h2; exact ⟨by omega, h2, rfl⟩
    · cases h

theorem leBytes_length (n : Nat) (v : Word) : (leBytes n v).length = n := by
  induction n generalizing v with
  | zero => rfl
  | succ n ih => simp [leBytes, ih]

theorem bytesOf_length (en : Endian) (n : Nat) (v : Word) : (bytesOf en n v).length = n := by
  cases en <;> simp [bytesOf, leBytes_length]

/-! ## All instructions through the eleven formats -/

/-- The meaning of a format: what `exec` does with each of its instructions. -/
def execForm (x : Form) (s : State) : Outcome State Fault Refusal :=
  match x with
  | .ri op rd rs1 f k => riMeaning (opHAlu op) (riConst op k) rd rs1 f s
  | .rr op rd rs1 f rs2 => rrMeaning (opJAlu op) rd rs1 f rs2 s
  | .rrr op2 op1 rd rs1 f rs2 rs3 => rrrMeaning (opHAlu op2) (op1Alu op1) rd rs1 f rs2 rs3 s
  | .rm store rd rs1 m k => if store then rmStore rd rs1 m k s else rmLoad rd rs1 m k s
  | .rrm x rd rs1 m rs2 =>
    if x.s then rrmStore (rrmSize x) (rrmAlu x) rd rs1 m rs2 s
    else rrmLoad (rrmSize x) (rrmExt x) (rrmAlu x) rd rs1 m rs2 s
  | .br rel c k => branchMeaning c (if rel then relTarget s k else absTarget k) s
  | .punt => puntMeaning s
  | .sls store rd a => if store then slsStore rd a s else slsLoad rd a s
  | .sli rd k => sliMeaning rd k s
  | .spls acc rd rs1 m k =>
    if acc.s then splsStore (splsSize acc) rd rs1 m k s
    else splsLoad (splsSize acc) (splsExt acc) rd rs1 m k s
  | .sbr c rs1 rs3 => sbrMeaning c rs1 rs3 s

theorem exec_eq_execForm (i : Instr) (s : State) : exec i s = execForm i.form s := by
  cases i <;> rfl

end Sys2Proof.Machine
end

