-- ==== Sys2Proof/Laws/Effects.lean ====
section
/-! SUPPORT. Every instruction but PUNT ends in `runEffects`: the effects of each format as one function, what
each kind of effect can be, and the parts of the state they do not depend on. A claim about all instructions
cites `exec_next` and `formEffects_cases`. -/

namespace Sys2Proof.Machine

open Host (Outcome)

/-- The effects of a format; PUNT has none of this kind. -/
def formEffects (x : Form) (s : State) : Except Refusal Effects :=
  match x with
  | .ri op rd rs1 f k => riEffects (opHAlu op) (riConst op k) rd rs1 f s
  | .rr op rd rs1 f rs2 => rrEffects (opJAlu op) rd rs1 f rs2 s
  | .rrr op2 op1 rd rs1 f rs2 rs3 => rrrEffects (opHAlu op2) (op1Alu op1) rd rs1 f rs2 rs3 s
  | .rm store rd rs1 m k => if store then rmStoreEffects rd rs1 m k s else rmLoadEffects rd rs1 m k s
  | .rrm x rd rs1 m rs2 =>
    if x.s then rrmStoreEffects (rrmSize x) (rrmAlu x) rd rs1 m rs2 s
    else rrmLoadEffects (rrmSize x) (rrmExt x) (rrmAlu x) rd rs1 m rs2 s
  | .br rel c k => .ok (branchEffects c (if rel then relTarget s k else absTarget k) s)
  | .punt => .ok {}
  | .sls store rd a => if store then slsStoreEffects rd a s else slsLoadEffects rd a s
  | .sli rd k => sliEffects rd k
  | .spls acc rd rs1 m k =>
    if acc.s then splsStoreEffects (splsSize acc) rd rs1 m k s
    else splsLoadEffects (splsSize acc) (splsExt acc) rd rs1 m k s
  | .sbr c rs1 rs3 => sbrEffects c rs1 rs3 s

theorem exec_eq_runEffects {i : Instr} (h : isPunt i = false) (s : State) :
    exec i s = runEffects (accessed i) (formEffects i.form s) s := by
  rw [exec_eq_execForm]
  unfold accessed
  cases hx : i.form with
  | rm store => cases store <;> rfl
  | rrm x => simp only [execForm, formEffects]; split <;> rfl
  | sls store => cases store <;> rfl
  | spls acc => simp only [execForm, formEffects]; split <;> rfl
  | punt => simp [isPunt, hx] at h
  | _ => rfl

/-- An instruction other than PUNT has a next state exactly where its format has effects, no two writes meet and
it jumps, if at all, to a multiple of 4 and in no shadow. -/
theorem exec_next {i : Instr} (h : isPunt i = false) {s t : State} : exec i s = .next t ↔
    ∃ e, formEffects i.form s = .ok e ∧ collision e s = none ∧
      (∀ u, e.jump = some u → aligned4 u = true ∧ s.js = false) ∧ t = settled i s (applyEffects e s) := by
  rw [exec_eq_runEffects h]
  exact runEffects_eq_next

theorem exec_punt {i : Instr} (h : isPunt i = true) (s : State) : exec i s = puntMeaning s := by
  have : i.form = .punt := by simpa [isPunt] using h
  rw [exec_eq_execForm, this]
  rfl

/-- The effects do not depend on the late-write slot, the shadow, the next address, the context, the alternate
context, register 31 or W. -/
theorem formEffects_local (x : Form) (s : State) (lp : Option Late) (js c : Bool) (nia r : Word) (a : List Word)
    (w : List Nat) : formEffects x { s with lp := lp, js := js, ctx := c, nia := nia, isr := r, alt := a, stored := w }
      = formEffects x s := rfl

/-- The new state does not depend on the context, the alternate context or register 31, but to keep them. -/
theorem applyEffects_local (e : Effects) (s : State) (c : Bool) (a : List Word) (r : Word) :
    applyEffects e { s with ctx := c, alt := a, isr := r } =
      { applyEffects e s with ctx := c, alt := a, isr := r } := by
  have set : ∀ g v (u : State), setReg g v { u with ctx := c, alt := a, isr := r } =
      { setReg g v u with ctx := c, alt := a, isr := r } := by
    intro g v u
    unfold setReg
    cases behaviour u.params g with
    | some x => cases x <;> rfl
    | none => cases flagsIn u.params g <;> rfl
  have land : landed { s with ctx := c, alt := a, isr := r } = { landed s with ctx := c, alt := a, isr := r } := by
    cases hl : s.lp with
    | none => simp only [landed, hl]
    | some l => simpa only [landed, hl] using set l.reg l.val s
  have out : writeOut e.write (landed { s with ctx := c, alt := a, isr := r }) =
      { writeOut e.write (landed s) with ctx := c, alt := a, isr := r } := by
    rw [land]
    rcases e.write with _ | ⟨g, v⟩
    · rfl
    · exact set _ _ _
  simp only [applyEffects, out]
  rfl

/-! ## What each kind of effect can be -/

/-- What the effects of an instruction are made of, in the terms of Sys2Proof/Safety.lean. -/
structure EffectsOf (i : Instr) (s : State) (e : Effects) : Prop where
  write : e.write.map Prod.fst = writeReg? i
  late : e.late.map Late.reg = lateReg? i
  flags : setsFlags i = false → e.flags = none ∧ e.drew = false
  plain : isStore i = false → e.store = none
  store : isStore i = true → ∃ ea n st, dataAccess i s = some (ea, n) ∧ e.store = some st ∧ st.addr = ea ∧
    st.bytes.length = n

theorem dest_eq_ok {rd : Reg} {d : Dest} (h : dest rd = .ok d) :
    (∃ g, d = .reg g ∧ gpr? rd = some g) ∨ (d = .pc ∧ gpr? rd = none) := by
  unfold dest at h
  cases hg : gpr? rd with
  | some g => rw [hg] at h; cases h; exact .inl ⟨g, rfl, rfl⟩
  | none =>
    simp only [hg] at h
    split at h <;> cases h
    exact .inr ⟨rfl, rfl⟩

theorem plainRd_eq_ok {fmt : Format} {rd : Reg} {g : Gpr} (h : plainRd fmt rd = .ok g) : gpr? rd = some g := by
  unfold plainRd at h
  cases hg : gpr? rd <;> rw [hg] at h <;> cases h; rfl

theorem source_eq_ok {field : RegField} {r : Reg} {s : State} {a : Word} (h : source field r s = .ok a) :
    r ≠ 31#5 ∧ a = regValue r s := by
  have hr : r ≠ 31#5 := by rintro rfl; cases h
  rw [source_readable hr] at h
  cases h; exact ⟨hr, rfl⟩

theorem compute_eq_ok {op : AluOp} {a b : Word} {s : State} {o : AluOut} (h : compute op a b s = .ok o) :
    alu op a b s.flags.c = some o := by
  unfold compute at h
  cases ha : alu op a b s.flags.c <;> rw [ha] at h <;> cases h; rfl

/-- The address and the base update of a mode whose base register passed its check. -/
theorem baseReg_eq_ok {m : Mode} {rs1 : Reg} {b : Option Gpr} (h : baseReg m rs1 = .ok b) (a t : Word) :
    addrMode m b a t = (modeEa m a t, if updatesBase m then (gpr? rs1).map (fun g => (g, t)) else none) := by
  cases m <;> cases hg : gpr? rs1 <;> simp [baseReg, hg] at h <;> subst h <;> rfl

theorem dispAddress_eq_ok {rs1 : Reg} {m : Mode} {k : Word} {s : State} {x : Word × Option (Gpr × Word)}
    (h : dispAddress rs1 m k s = .ok x) : x = (modeEa m (regValue rs1 s) (regValue rs1 s + k),
      if updatesBase m then (gpr? rs1).map (fun g => (g, regValue rs1 s + k)) else none) := by
  obtain ⟨a, ha, h⟩ := except_bind_eq_ok h
  obtain ⟨b, hb, h⟩ := except_bind_eq_ok h
  cases h
  rw [baseReg_eq_ok hb, (source_eq_ok ha).2]

/-- The address of RRM: in mode base the register alone, else through the operation. -/
theorem rrmAddress_eq_ok {op : AluOp} {rs1 : Reg} {m : Mode} {rs2 : Reg} {s : State}
    {x : Word × Option (Gpr × Word)} (h : rrmAddress op rs1 m rs2 s = .ok x) :
    (m = .base ∧ x = (regValue rs1 s, none)) ∨
    (m ≠ .base ∧ ∃ o, alu op (regValue rs1 s) (regValue rs2 s) s.flags.c = some o ∧
      x = (modeEa m (regValue rs1 s) o.r,
        if updatesBase m then (gpr? rs1).map (fun g => (g, o.r)) else none)) := by
  obtain ⟨a, ha, h⟩ := except_bind_eq_ok h
  obtain ⟨b, hb, h⟩ := except_bind_eq_ok h
  obtain ⟨c, hc, h⟩ := except_bind_eq_ok h
  obtain rfl := (source_eq_ok ha).2
  obtain rfl := (source_eq_ok hb).2
  cases m
  case base => cases h; exact .inl ⟨rfl, rfl⟩
  all_goals
    obtain ⟨o, ho, h⟩ := except_bind_eq_ok h
    cases h
    exact .inr ⟨by simp, o, compute_eq_ok ho, by rw [← baseReg_eq_ok hc]⟩

theorem loadEffects_eq_ok {g : Gpr} {size : Size} {ext : Ext} {x : Word × Option (Gpr × Word)} {s : State}
    {e : Effects} (h : loadEffects g size ext x s = .ok e) :
    e = { write := x.2, late := some { reg := g, val := extend size ext (valueAt x.1 size.bytes s) } } := by
  obtain ⟨v, hv, h⟩ := except_bind_eq_ok h
  cases h
  rw [(memRead_eq_ok hv).2.2]

theorem storeEffects_eq_ok {g : Gpr} {size : Size} {x : Word × Option (Gpr × Word)} {s : State}
    {e : Effects} (h : storeEffects g size x s = .ok e) :
    e = { write := x.2, store := some { addr := x.1, bytes := bytesOf s.params.endian size.bytes (readReg s g) } } := by
  obtain ⟨v, hv, h⟩ := except_bind_eq_ok h
  cases h
  rw [(memWrite_eq_ok hv).2.2]

theorem fst_base (m : Mode) (rs1 : Reg) (t : Word) :
    (if updatesBase m then (gpr? rs1).map (fun g => (g, t)) else none).map Prod.fst =
      if updatesBase m then gpr? rs1 else none := by
  cases updatesBase m <;> cases gpr? rs1 <;> rfl

theorem absTarget_aligned (k : BitVec 23) : aligned4 (absTarget k) = true := by
  unfold aligned4 absTarget
  simp only [BitVec.toNat_setWidth, BitVec.toNat_append, BitVec.toNat_ofNat]
  have := k.isLt
  simp only [Nat.shiftLeft_eq, Nat.zero_mod, Nat.or_zero, beq_iff_eq]
  omega

theorem wordAddr_aligned (a : Word) : aligned4 (wordAddr a) = true := by
  have h : (a.toNat &&& 0xFFFFFFFC) % 2 ^ 2 = 0 := by rw [Nat.and_mod_two_pow]; simp
  simpa [aligned4, wordAddr, BitVec.toNat_and] using h

/-- The effects of an instruction other than PUNT are made of what Sys2Proof/Safety.lean says of it. -/
theorem effects_spec {i : Instr} {s : State} {e : Effects} (hp : isPunt i = false)
    (h : formEffects i.form s = .ok e) : EffectsOf i s e := by
  cases hx : i.form with
  | punt => simp [isPunt, hx] at hp
  | ri op rd rs1 f k =>
    rw [hx] at h
    obtain ⟨d, hd, h⟩ := except_bind_eq_ok h
    obtain ⟨a, -, h⟩ := except_bind_eq_ok h
    obtain ⟨o, -, h⟩ := except_bind_eq_ok h
    cases h
    rcases dest_eq_ok hd with ⟨g, rfl, hg⟩ | ⟨rfl, hg⟩
    all_goals
      constructor <;> simp [putResult, writeReg?, lateReg?, setsFlags, isStore, hx, hg, flagWrite, drawsCarry]
      rintro rfl; simp
  | rr op rd rs1 f rs2 =>
    rw [hx] at h
    obtain ⟨d, hd, h⟩ := except_bind_eq_ok h
    obtain ⟨a, -, h⟩ := except_bind_eq_ok h
    obtain ⟨b, -, h⟩ := except_bind_eq_ok h
    obtain ⟨o, -, h⟩ := except_bind_eq_ok h
    cases h
    rcases dest_eq_ok hd with ⟨g, rfl, hg⟩ | ⟨rfl, hg⟩
    all_goals
      constructor <;> simp [putResult, writeReg?, lateReg?, setsFlags, isStore, hx, hg, flagWrite, drawsCarry]
      rintro rfl; simp
  | rrr op2 op1 rd rs1 f rs2 rs3 =>
    rw [hx] at h
    obtain ⟨g, hg, h⟩ := except_bind_eq_ok h
    obtain ⟨a, -, h⟩ := except_bind_eq_ok h
    obtain ⟨b, -, h⟩ := except_bind_eq_ok h
    obtain ⟨c, -, h⟩ := except_bind_eq_ok h
    obtain ⟨t, -, h⟩ := except_bind_eq_ok h
    obtain ⟨o, -, h⟩ := except_bind_eq_ok h
    cases h
    constructor <;> simp [putResult, writeReg?, lateReg?, setsFlags, isStore, hx, plainRd_eq_ok hg, flagWrite, drawsCarry]
    rintro rfl; simp
  | rm store rd rs1 m k =>
    rw [hx] at h
    cases store
    all_goals
      obtain ⟨g, hg, h⟩ := except_bind_eq_ok h
      obtain ⟨x, hd, h⟩ := except_bind_eq_ok h
      obtain rfl := dispAddress_eq_ok hd
    · obtain rfl := loadEffects_eq_ok h
      constructor <;> simp [writeReg?, lateReg?, setsFlags, isStore, hx, plainRd_eq_ok hg, fst_base]
    · obtain rfl := storeEffects_eq_ok h
      constructor <;> simp [writeReg?, lateReg?, setsFlags, isStore, hx, fst_base, dataAccess, bytesOf_length,
        Size.bytes]
  | rrm y rd rs1 m rs2 =>
    rw [hx] at h
    have key : ∀ x, rrmAddress (rrmAlu y) rs1 m rs2 s = .ok x →
        dataAccess i s = some (x.1, (rrmSize y).bytes) ∧ x.2.map Prod.fst = writeReg? i := by
      intro x hx'
      rcases rrmAddress_eq_ok hx' with ⟨rfl, rfl⟩ | ⟨hm, o, ho, rfl⟩
      · simp [dataAccess, writeReg?, hx, updatesBase]
      · simp [dataAccess, writeReg?, hx, hm, ho, fst_base]
    simp only [formEffects] at h
    cases hs : y.s <;> simp only [hs, if_true, if_false, Bool.false_eq_true] at h
    all_goals
      obtain ⟨g, hg, h⟩ := except_bind_eq_ok h
      obtain ⟨x, hd, h⟩ := except_bind_eq_ok h
      obtain ⟨k1, k2⟩ := key x hd
    · obtain rfl := loadEffects_eq_ok h
      constructor <;> simp [k2, lateReg?, setsFlags, isStore, hx, plainRd_eq_ok hg, hs]
    · obtain rfl := storeEffects_eq_ok h
      constructor <;> simp [k1, k2, lateReg?, setsFlags, isStore, hx, hs, bytesOf_length]
  | br rel c k =>
    rw [hx] at h
    cases h
    constructor <;> unfold branchEffects <;> split <;>
      simp [writeReg?, lateReg?, setsFlags, isStore, hx]
  | sls store rd a =>
    rw [hx] at h
    cases store
    all_goals obtain ⟨g, hg, h⟩ := except_bind_eq_ok h
    · obtain rfl := loadEffects_eq_ok h
      constructor <;> simp [writeReg?, lateReg?, setsFlags, isStore, hx, plainRd_eq_ok hg]
    · obtain rfl := storeEffects_eq_ok h
      constructor <;> simp [writeReg?, lateReg?, setsFlags, isStore, hx, dataAccess, bytesOf_length, Size.bytes]
  | sli rd k =>
    rw [hx] at h
    obtain ⟨g, hg, h⟩ := except_bind_eq_ok h
    cases h
    constructor <;> simp [writeReg?, lateReg?, setsFlags, isStore, hx, plainRd_eq_ok hg]
  | spls acc rd rs1 m k =>
    rw [hx] at h
    simp only [formEffects] at h
    cases hs : acc.s <;> simp only [hs, if_true, if_false, Bool.false_eq_true] at h
    all_goals
      obtain ⟨g, hg, h⟩ := except_bind_eq_ok h
      obtain ⟨x, hd, h⟩ := except_bind_eq_ok h
      obtain rfl := dispAddress_eq_ok hd
    · obtain rfl := loadEffects_eq_ok h
      constructor <;> simp [writeReg?, lateReg?, setsFlags, isStore, hx, plainRd_eq_ok hg, fst_base, hs]
    · obtain rfl := storeEffects_eq_ok h
      constructor <;> simp [writeReg?, lateReg?, setsFlags, isStore, hx, fst_base, dataAccess, bytesOf_length, hs]
  | sbr c rs1 rs3 =>
    rw [hx] at h
    obtain ⟨a, -, h⟩ := except_bind_eq_ok h
    obtain ⟨b, -, h⟩ := except_bind_eq_ok h
    cases h
    constructor <;> split <;> simp [writeReg?, lateReg?, setsFlags, isStore, hx]

end Sys2Proof.Machine
end

