-- ==== Sys2Proof/Laws/Fields.lean ====
section
/-! SUPPORT. Bit fields of a word built by `put`: a field reads back, and reads 0 of every other field. -/

namespace Sys2Proof

theorem fld_or (a b : Word) (lo len : Nat) : fld (a ||| b) lo len = fld a lo len ||| fld b lo len := by
  unfold fld; ext i hi; simp

theorem bit_or (a b : Word) (i : Nat) : bit (a ||| b) i = (bit a i || bit b i) := by
  simp [bit]

theorem fld_put_same {n : Nat} (x : BitVec n) (lo : Nat) (hlo : lo + n ≤ 32) :
    fld (put lo x) lo n = x := by
  unfold fld put; ext i hi; simp [show lo + i < 32 by omega, BitVec.getLsbD_eq_getElem hi]

theorem fld_put_low {n : Nat} (x : BitVec n) (lo lo' len : Nat) (h : lo' + len ≤ lo) :
    fld (put lo x) lo' len = 0#len := by
  unfold fld put; ext i hi; simp; omega

theorem fld_put_high {n : Nat} (x : BitVec n) (lo lo' len : Nat) (h : lo + n ≤ lo') :
    fld (put lo x) lo' len = 0#len := by
  unfold fld put; ext i hi; simp; intros; apply BitVec.getLsbD_of_ge; omega

theorem fld_put_inside {n : Nat} (x : BitVec n) (lo lo' len : Nat) (h : lo' ≤ lo) (_hr : lo + n ≤ lo' + len) (h2 : lo' + len ≤ 32):
    fld (put lo x) lo' len = x.setWidth len <<< (lo - lo') := by
  unfold fld put; ext i hi
  simp
  rw [show (lo' + i - lo) = i - (lo - lo') by omega]
  by_cases h3 : i < lo - lo' <;> simp [h3, show (lo' + i < lo) ↔ (i < lo - lo') by omega, show lo' + i < 32 by omega, show i - (lo - lo') < 32 by omega]

theorem fld_put_sub {n : Nat} (x : BitVec n) (lo lo' len : Nat) (h : lo ≤ lo') (_hr : lo' + len ≤ lo + n) (h2 : lo' + len ≤ 32):
    fld (put lo x) lo' len = x.extractLsb' (lo' - lo) len := by
  unfold fld put; ext i hi; simp
  rw [show lo' + i - lo = lo' - lo + i by omega]; simp [show lo' + i < 32 by omega, show ¬ (lo' + i < lo) by omega, show lo' - lo + i < 32 by omega]

theorem bit_put {n : Nat} (x : BitVec n) (lo i : Nat) (h : i < 32) :
    bit (put lo x) i = (decide (lo ≤ i) && x.getLsbD (i - lo)) := by
  unfold bit put; simp
  by_cases h1 : lo ≤ i
  · have : ¬ (i < lo) := by omega
    have : i - lo < 32 := by omega
    simp [*]
  · have : (i < lo) := by omega
    simp [*]

theorem bit_putBit (b : Bool) (lo i : Nat) (h : i < 32) :
    bit (putBit lo b) i = (decide (lo = i) && b) := by
  unfold putBit; rw [bit_put _ _ _ h]
  by_cases h1 : lo = i
  · subst h1; simp
  · by_cases h2 : lo ≤ i <;> simp [h1,h2] ; omega

theorem fld_putBit_low (b) (lo lo' len : Nat) (h : lo' + len ≤ lo) :
    fld (putBit lo b) lo' len = 0#len := fld_put_low _ _ _ _ h

theorem fld_putBit_high (b) (lo lo' len : Nat) (h : lo + 1 ≤ lo') :
    fld (putBit lo b) lo' len = 0#len := fld_put_high _ _ _ _ h

theorem fld_putBit_inside (b) (lo lo' len : Nat) (h : lo' ≤ lo) (_hr : lo + 1 ≤ lo' + len) (h2 : lo' + len ≤ 32):
    fld (putBit lo b) lo' len = (BitVec.ofBool b).setWidth len <<< (lo - lo') := fld_put_inside _ _ _ _ h _hr h2

theorem bit_put_low {n : Nat} (x : BitVec n) (lo i : Nat) (h : i < lo) : bit (put lo x) i = false := by
  unfold bit put; simp; omega

theorem bit_put_high {n : Nat} (x : BitVec n) (lo i : Nat) (h : lo + n ≤ i) : bit (put lo x) i = false := by
  unfold bit put; simp; intros;  apply BitVec.getLsbD_of_ge; omega

/-! ## The 21-bit fields of SLS and SLI, in two parts -/

theorem toNat_join21 (x : BitVec 5) (y : BitVec 16) : (x ++ y : BitVec 21).toNat = x.toNat * 2 ^ 16 + y.toNat := by
  rw [BitVec.toNat_append, ← Nat.shiftLeft_add_eq_or_of_lt y.isLt, Nat.shiftLeft_eq]

theorem high_join21 (x : BitVec 5) (y : BitVec 16) : (x ++ y : BitVec 21).extractLsb' 16 5 = x := by
  have := y.isLt
  have := x.isLt
  apply BitVec.eq_of_toNat_eq
  rw [BitVec.extractLsb'_toNat, toNat_join21, Nat.shiftRight_eq_div_pow]
  omega

theorem low_join21 (x : BitVec 5) (y : BitVec 16) : (x ++ y : BitVec 21).extractLsb' 0 16 = y := by
  have := y.isLt
  apply BitVec.eq_of_toNat_eq
  rw [BitVec.extractLsb'_toNat, toNat_join21, Nat.shiftRight_zero]
  omega

theorem join21_parts (a : BitVec 21) : (a.extractLsb' 16 5 ++ a.extractLsb' 0 16 : BitVec 21) = a := by
  have := a.isLt
  apply BitVec.eq_of_toNat_eq
  rw [toNat_join21]
  simp only [BitVec.extractLsb'_toNat, Nat.shiftRight_eq_div_pow]
  omega

/-! ## Bytes -/

theorem leValue_cons (b : Byte) (bs : List Byte) :
    (leValue (b :: bs)).toNat = b.toNat + (leValue bs).toNat % 2 ^ 24 * 2 ^ 8 := by
  have hb := b.isLt
  have h : (leValue bs).toNat <<< 8 % 2 ^ 32 = ((leValue bs).toNat % 2 ^ 24) <<< 8 := by
    simp only [Nat.shiftLeft_eq]; omega
  have h2 : b.toNat % 2 ^ 32 = b.toNat := by omega
  rw [leValue, BitVec.toNat_or, BitVec.toNat_shiftLeft, BitVec.toNat_setWidth, h, h2, Nat.or_comm,
    ← Nat.shiftLeft_add_eq_or_of_lt hb, Nat.shiftLeft_eq, Nat.add_comm]

end Sys2Proof
end

