-- ==== Sys2Proof/Laws/PerInstr.lean ====
section
/-! SUPPORT. `FormRoundTrip`, per constructor: an instruction is the instruction of its format and fields, so
no field of an encoding is dropped between `Instr` and the eleven formats. -/

namespace Sys2Proof.Laws

def FormRoundTrip.Statement (i : Instr) : Prop := i.form.instr = i

theorem FormRoundTrip.riAdd (rd rs1 : Reg) (f h : Bool) (k : BitVec 16) : FormRoundTrip.Statement (.riAdd rd rs1 f h k) := rfl
theorem FormRoundTrip.riAddc (rd rs1 : Reg) (f h : Bool) (k : BitVec 16) : FormRoundTrip.Statement (.riAddc rd rs1 f h k) := rfl
theorem FormRoundTrip.riSub (rd rs1 : Reg) (f h : Bool) (k : BitVec 16) : FormRoundTrip.Statement (.riSub rd rs1 f h k) := rfl
theorem FormRoundTrip.riSubb (rd rs1 : Reg) (f h : Bool) (k : BitVec 16) : FormRoundTrip.Statement (.riSubb rd rs1 f h k) := rfl
theorem FormRoundTrip.riAnd (rd rs1 : Reg) (f h : Bool) (k : BitVec 16) : FormRoundTrip.Statement (.riAnd rd rs1 f h k) := rfl
theorem FormRoundTrip.riOr (rd rs1 : Reg) (f h : Bool) (k : BitVec 16) : FormRoundTrip.Statement (.riOr rd rs1 f h k) := rfl
theorem FormRoundTrip.riXor (rd rs1 : Reg) (f h : Bool) (k : BitVec 16) : FormRoundTrip.Statement (.riXor rd rs1 f h k) := rfl
theorem FormRoundTrip.riSh (rd rs1 : Reg) (f : Bool) (k : BitVec 16) : FormRoundTrip.Statement (.riSh rd rs1 f k) := rfl
theorem FormRoundTrip.riSha (rd rs1 : Reg) (f : Bool) (k : BitVec 16) : FormRoundTrip.Statement (.riSha rd rs1 f k) := rfl
theorem FormRoundTrip.rrAdd (rd rs1 : Reg) (f : Bool) (rs2 : Reg) (j : BitVec 5) : FormRoundTrip.Statement (.rrAdd rd rs1 f rs2 j) := rfl
theorem FormRoundTrip.rrAddc (rd rs1 : Reg) (f : Bool) (rs2 : Reg) (j : BitVec 5) : FormRoundTrip.Statement (.rrAddc rd rs1 f rs2 j) := rfl
theorem FormRoundTrip.rrSub (rd rs1 : Reg) (f : Bool) (rs2 : Reg) (j : BitVec 5) : FormRoundTrip.Statement (.rrSub rd rs1 f rs2 j) := rfl
theorem FormRoundTrip.rrSubb (rd rs1 : Reg) (f : Bool) (rs2 : Reg) (j : BitVec 5) : FormRoundTrip.Statement (.rrSubb rd rs1 f rs2 j) := rfl
theorem FormRoundTrip.rrAnd (rd rs1 : Reg) (f : Bool) (rs2 : Reg) (j : BitVec 5) : FormRoundTrip.Statement (.rrAnd rd rs1 f rs2 j) := rfl
theorem FormRoundTrip.rrOr (rd rs1 : Reg) (f : Bool) (rs2 : Reg) (j : BitVec 5) : FormRoundTrip.Statement (.rrOr rd rs1 f rs2 j) := rfl
theorem FormRoundTrip.rrXor (rd rs1 : Reg) (f : Bool) (rs2 : Reg) (j : BitVec 5) : FormRoundTrip.Statement (.rrXor rd rs1 f rs2 j) := rfl
theorem FormRoundTrip.rrSh (rd rs1 : Reg) (f : Bool) (rs2 : Reg) : FormRoundTrip.Statement (.rrSh rd rs1 f rs2) := rfl
theorem FormRoundTrip.rrSha (rd rs1 : Reg) (f : Bool) (rs2 : Reg) : FormRoundTrip.Statement (.rrSha rd rs1 f rs2) := rfl
theorem FormRoundTrip.rrrAddAdd (rd rs1 : Reg) (f h : Bool) (rs2 rs3 : Reg) : FormRoundTrip.Statement (.rrrAddAdd rd rs1 f h rs2 rs3) := rfl
theorem FormRoundTrip.rrrAddAddc (rd rs1 : Reg) (f h : Bool) (rs2 rs3 : Reg) : FormRoundTrip.Statement (.rrrAddAddc rd rs1 f h rs2 rs3) := rfl
theorem FormRoundTrip.rrrAddSub (rd rs1 : Reg) (f h : Bool) (rs2 rs3 : Reg) : FormRoundTrip.Statement (.rrrAddSub rd rs1 f h rs2 rs3) := rfl
theorem FormRoundTrip.rrrAddSubb (rd rs1 : Reg) (f h : Bool) (rs2 rs3 : Reg) : FormRoundTrip.Statement (.rrrAddSubb rd rs1 f h rs2 rs3) := rfl
theorem FormRoundTrip.rrrAddAnd (rd rs1 : Reg) (f h : Bool) (rs2 rs3 : Reg) : FormRoundTrip.Statement (.rrrAddAnd rd rs1 f h rs2 rs3) := rfl
theorem FormRoundTrip.rrrAddOr (rd rs1 : Reg) (f h : Bool) (rs2 rs3 : Reg) : FormRoundTrip.Statement (.rrrAddOr rd rs1 f h rs2 rs3) := rfl
theorem FormRoundTrip.rrrAddXor (rd rs1 : Reg) (f h : Bool) (rs2 rs3 : Reg) : FormRoundTrip.Statement (.rrrAddXor rd rs1 f h rs2 rs3) := rfl
theorem FormRoundTrip.rrrAddSha (rd rs1 : Reg) (f h : Bool) (rs2 rs3 : Reg) : FormRoundTrip.Statement (.rrrAddSha rd rs1 f h rs2 rs3) := rfl
theorem FormRoundTrip.rrrAddcAdd (rd rs1 : Reg) (f h : Bool) (rs2 rs3 : Reg) : FormRoundTrip.Statement (.rrrAddcAdd rd rs1 f h rs2 rs3) := rfl
theorem FormRoundTrip.rrrAddcAddc (rd rs1 : Reg) (f h : Bool) (rs2 rs3 : Reg) : FormRoundTrip.Statement (.rrrAddcAddc rd rs1 f h rs2 rs3) := rfl
theorem FormRoundTrip.rrrAddcSub (rd rs1 : Reg) (f h : Bool) (rs2 rs3 : Reg) : FormRoundTrip.Statement (.rrrAddcSub rd rs1 f h rs2 rs3) := rfl
theorem FormRoundTrip.rrrAddcSubb (rd rs1 : Reg) (f h : Bool) (rs2 rs3 : Reg) : FormRoundTrip.Statement (.rrrAddcSubb rd rs1 f h rs2 rs3) := rfl
theorem FormRoundTrip.rrrAddcAnd (rd rs1 : Reg) (f h : Bool) (rs2 rs3 : Reg) : FormRoundTrip.Statement (.rrrAddcAnd rd rs1 f h rs2 rs3) := rfl
theorem FormRoundTrip.rrrAddcOr (rd rs1 : Reg) (f h : Bool) (rs2 rs3 : Reg) : FormRoundTrip.Statement (.rrrAddcOr rd rs1 f h rs2 rs3) := rfl
theorem FormRoundTrip.rrrAddcXor (rd rs1 : Reg) (f h : Bool) (rs2 rs3 : Reg) : FormRoundTrip.Statement (.rrrAddcXor rd rs1 f h rs2 rs3) := rfl
theorem FormRoundTrip.rrrAddcSha (rd rs1 : Reg) (f h : Bool) (rs2 rs3 : Reg) : FormRoundTrip.Statement (.rrrAddcSha rd rs1 f h rs2 rs3) := rfl
theorem FormRoundTrip.rrrSubAdd (rd rs1 : Reg) (f h : Bool) (rs2 rs3 : Reg) : FormRoundTrip.Statement (.rrrSubAdd rd rs1 f h rs2 rs3) := rfl
theorem FormRoundTrip.rrrSubAddc (rd rs1 : Reg) (f h : Bool) (rs2 rs3 : Reg) : FormRoundTrip.Statement (.rrrSubAddc rd rs1 f h rs2 rs3) := rfl
theorem FormRoundTrip.rrrSubSub (rd rs1 : Reg) (f h : Bool) (rs2 rs3 : Reg) : FormRoundTrip.Statement (.rrrSubSub rd rs1 f h rs2 rs3) := rfl
theorem FormRoundTrip.rrrSubSubb (rd rs1 : Reg) (f h : Bool) (rs2 rs3 : Reg) : FormRoundTrip.Statement (.rrrSubSubb rd rs1 f h rs2 rs3) := rfl
theorem FormRoundTrip.rrrSubAnd (rd rs1 : Reg) (f h : Bool) (rs2 rs3 : Reg) : FormRoundTrip.Statement (.rrrSubAnd rd rs1 f h rs2 rs3) := rfl
theorem FormRoundTrip.rrrSubOr (rd rs1 : Reg) (f h : Bool) (rs2 rs3 : Reg) : FormRoundTrip.Statement (.rrrSubOr rd rs1 f h rs2 rs3) := rfl
theorem FormRoundTrip.rrrSubXor (rd rs1 : Reg) (f h : Bool) (rs2 rs3 : Reg) : FormRoundTrip.Statement (.rrrSubXor rd rs1 f h rs2 rs3) := rfl
theorem FormRoundTrip.rrrSubSha (rd rs1 : Reg) (f h : Bool) (rs2 rs3 : Reg) : FormRoundTrip.Statement (.rrrSubSha rd rs1 f h rs2 rs3) := rfl
theorem FormRoundTrip.rrrSubbAdd (rd rs1 : Reg) (f h : Bool) (rs2 rs3 : Reg) : FormRoundTrip.Statement (.rrrSubbAdd rd rs1 f h rs2 rs3) := rfl
theorem FormRoundTrip.rrrSubbAddc (rd rs1 : Reg) (f h : Bool) (rs2 rs3 : Reg) : FormRoundTrip.Statement (.rrrSubbAddc rd rs1 f h rs2 rs3) := rfl
theorem FormRoundTrip.rrrSubbSub (rd rs1 : Reg) (f h : Bool) (rs2 rs3 : Reg) : FormRoundTrip.Statement (.rrrSubbSub rd rs1 f h rs2 rs3) := rfl
theorem FormRoundTrip.rrrSubbSubb (rd rs1 : Reg) (f h : Bool) (rs2 rs3 : Reg) : FormRoundTrip.Statement (.rrrSubbSubb rd rs1 f h rs2 rs3) := rfl
theorem FormRoundTrip.rrrSubbAnd (rd rs1 : Reg) (f h : Bool) (rs2 rs3 : Reg) : FormRoundTrip.Statement (.rrrSubbAnd rd rs1 f h rs2 rs3) := rfl
theorem FormRoundTrip.rrrSubbOr (rd rs1 : Reg) (f h : Bool) (rs2 rs3 : Reg) : FormRoundTrip.Statement (.rrrSubbOr rd rs1 f h rs2 rs3) := rfl
theorem FormRoundTrip.rrrSubbXor (rd rs1 : Reg) (f h : Bool) (rs2 rs3 : Reg) : FormRoundTrip.Statement (.rrrSubbXor rd rs1 f h rs2 rs3) := rfl
theorem FormRoundTrip.rrrSubbSha (rd rs1 : Reg) (f h : Bool) (rs2 rs3 : Reg) : FormRoundTrip.Statement (.rrrSubbSha rd rs1 f h rs2 rs3) := rfl
theorem FormRoundTrip.rrrAndAdd (rd rs1 : Reg) (f h : Bool) (rs2 rs3 : Reg) : FormRoundTrip.Statement (.rrrAndAdd rd rs1 f h rs2 rs3) := rfl
theorem FormRoundTrip.rrrAndAddc (rd rs1 : Reg) (f h : Bool) (rs2 rs3 : Reg) : FormRoundTrip.Statement (.rrrAndAddc rd rs1 f h rs2 rs3) := rfl
theorem FormRoundTrip.rrrAndSub (rd rs1 : Reg) (f h : Bool) (rs2 rs3 : Reg) : FormRoundTrip.Statement (.rrrAndSub rd rs1 f h rs2 rs3) := rfl
theorem FormRoundTrip.rrrAndSubb (rd rs1 : Reg) (f h : Bool) (rs2 rs3 : Reg) : FormRoundTrip.Statement (.rrrAndSubb rd rs1 f h rs2 rs3) := rfl
theorem FormRoundTrip.rrrAndAnd (rd rs1 : Reg) (f h : Bool) (rs2 rs3 : Reg) : FormRoundTrip.Statement (.rrrAndAnd rd rs1 f h rs2 rs3) := rfl
theorem FormRoundTrip.rrrAndOr (rd rs1 : Reg) (f h : Bool) (rs2 rs3 : Reg) : FormRoundTrip.Statement (.rrrAndOr rd rs1 f h rs2 rs3) := rfl
theorem FormRoundTrip.rrrAndXor (rd rs1 : Reg) (f h : Bool) (rs2 rs3 : Reg) : FormRoundTrip.Statement (.rrrAndXor rd rs1 f h rs2 rs3) := rfl
theorem FormRoundTrip.rrrAndSha (rd rs1 : Reg) (f h : Bool) (rs2 rs3 : Reg) : FormRoundTrip.Statement (.rrrAndSha rd rs1 f h rs2 rs3) := rfl
theorem FormRoundTrip.rrrOrAdd (rd rs1 : Reg) (f h : Bool) (rs2 rs3 : Reg) : FormRoundTrip.Statement (.rrrOrAdd rd rs1 f h rs2 rs3) := rfl
theorem FormRoundTrip.rrrOrAddc (rd rs1 : Reg) (f h : Bool) (rs2 rs3 : Reg) : FormRoundTrip.Statement (.rrrOrAddc rd rs1 f h rs2 rs3) := rfl
theorem FormRoundTrip.rrrOrSub (rd rs1 : Reg) (f h : Bool) (rs2 rs3 : Reg) : FormRoundTrip.Statement (.rrrOrSub rd rs1 f h rs2 rs3) := rfl
theorem FormRoundTrip.rrrOrSubb (rd rs1 : Reg) (f h : Bool) (rs2 rs3 : Reg) : FormRoundTrip.Statement (.rrrOrSubb rd rs1 f h rs2 rs3) := rfl
theorem FormRoundTrip.rrrOrAnd (rd rs1 : Reg) (f h : Bool) (rs2 rs3 : Reg) : FormRoundTrip.Statement (.rrrOrAnd rd rs1 f h rs2 rs3) := rfl
theorem FormRoundTrip.rrrOrOr (rd rs1 : Reg) (f h : Bool) (rs2 rs3 : Reg) : FormRoundTrip.Statement (.rrrOrOr rd rs1 f h rs2 rs3) := rfl
theorem FormRoundTrip.rrrOrXor (rd rs1 : Reg) (f h : Bool) (rs2 rs3 : Reg) : FormRoundTrip.Statement (.rrrOrXor rd rs1 f h rs2 rs3) := rfl
theorem FormRoundTrip.rrrOrSha (rd rs1 : Reg) (f h : Bool) (rs2 rs3 : Reg) : FormRoundTrip.Statement (.rrrOrSha rd rs1 f h rs2 rs3) := rfl
theorem FormRoundTrip.rrrXorAdd (rd rs1 : Reg) (f h : Bool) (rs2 rs3 : Reg) : FormRoundTrip.Statement (.rrrXorAdd rd rs1 f h rs2 rs3) := rfl
theorem FormRoundTrip.rrrXorAddc (rd rs1 : Reg) (f h : Bool) (rs2 rs3 : Reg) : FormRoundTrip.Statement (.rrrXorAddc rd rs1 f h rs2 rs3) := rfl
theorem FormRoundTrip.rrrXorSub (rd rs1 : Reg) (f h : Bool) (rs2 rs3 : Reg) : FormRoundTrip.Statement (.rrrXorSub rd rs1 f h rs2 rs3) := rfl
theorem FormRoundTrip.rrrXorSubb (rd rs1 : Reg) (f h : Bool) (rs2 rs3 : Reg) : FormRoundTrip.Statement (.rrrXorSubb rd rs1 f h rs2 rs3) := rfl
theorem FormRoundTrip.rrrXorAnd (rd rs1 : Reg) (f h : Bool) (rs2 rs3 : Reg) : FormRoundTrip.Statement (.rrrXorAnd rd rs1 f h rs2 rs3) := rfl
theorem FormRoundTrip.rrrXorOr (rd rs1 : Reg) (f h : Bool) (rs2 rs3 : Reg) : FormRoundTrip.Statement (.rrrXorOr rd rs1 f h rs2 rs3) := rfl
theorem FormRoundTrip.rrrXorXor (rd rs1 : Reg) (f h : Bool) (rs2 rs3 : Reg) : FormRoundTrip.Statement (.rrrXorXor rd rs1 f h rs2 rs3) := rfl
theorem FormRoundTrip.rrrXorSha (rd rs1 : Reg) (f h : Bool) (rs2 rs3 : Reg) : FormRoundTrip.Statement (.rrrXorSha rd rs1 f h rs2 rs3) := rfl
theorem FormRoundTrip.rrrShAdd (rd rs1 : Reg) (f : Bool) (rs2 rs3 : Reg) : FormRoundTrip.Statement (.rrrShAdd rd rs1 f rs2 rs3) := rfl
theorem FormRoundTrip.rrrShAddc (rd rs1 : Reg) (f : Bool) (rs2 rs3 : Reg) : FormRoundTrip.Statement (.rrrShAddc rd rs1 f rs2 rs3) := rfl
theorem FormRoundTrip.rrrShSub (rd rs1 : Reg) (f : Bool) (rs2 rs3 : Reg) : FormRoundTrip.Statement (.rrrShSub rd rs1 f rs2 rs3) := rfl
theorem FormRoundTrip.rrrShSubb (rd rs1 : Reg) (f : Bool) (rs2 rs3 : Reg) : FormRoundTrip.Statement (.rrrShSubb rd rs1 f rs2 rs3) := rfl
theorem FormRoundTrip.rrrShAnd (rd rs1 : Reg) (f : Bool) (rs2 rs3 : Reg) : FormRoundTrip.Statement (.rrrShAnd rd rs1 f rs2 rs3) := rfl
theorem FormRoundTrip.rrrShOr (rd rs1 : Reg) (f : Bool) (rs2 rs3 : Reg) : FormRoundTrip.Statement (.rrrShOr rd rs1 f rs2 rs3) := rfl
theorem FormRoundTrip.rrrShXor (rd rs1 : Reg) (f : Bool) (rs2 rs3 : Reg) : FormRoundTrip.Statement (.rrrShXor rd rs1 f rs2 rs3) := rfl
theorem FormRoundTrip.rrrShSha (rd rs1 : Reg) (f : Bool) (rs2 rs3 : Reg) : FormRoundTrip.Statement (.rrrShSha rd rs1 f rs2 rs3) := rfl
theorem FormRoundTrip.rrrShaAdd (rd rs1 : Reg) (f : Bool) (rs2 rs3 : Reg) : FormRoundTrip.Statement (.rrrShaAdd rd rs1 f rs2 rs3) := rfl
theorem FormRoundTrip.rrrShaAddc (rd rs1 : Reg) (f : Bool) (rs2 rs3 : Reg) : FormRoundTrip.Statement (.rrrShaAddc rd rs1 f rs2 rs3) := rfl
theorem FormRoundTrip.rrrShaSub (rd rs1 : Reg) (f : Bool) (rs2 rs3 : Reg) : FormRoundTrip.Statement (.rrrShaSub rd rs1 f rs2 rs3) := rfl
theorem FormRoundTrip.rrrShaSubb (rd rs1 : Reg) (f : Bool) (rs2 rs3 : Reg) : FormRoundTrip.Statement (.rrrShaSubb rd rs1 f rs2 rs3) := rfl
theorem FormRoundTrip.rrrShaAnd (rd rs1 : Reg) (f : Bool) (rs2 rs3 : Reg) : FormRoundTrip.Statement (.rrrShaAnd rd rs1 f rs2 rs3) := rfl
theorem FormRoundTrip.rrrShaOr (rd rs1 : Reg) (f : Bool) (rs2 rs3 : Reg) : FormRoundTrip.Statement (.rrrShaOr rd rs1 f rs2 rs3) := rfl
theorem FormRoundTrip.rrrShaXor (rd rs1 : Reg) (f : Bool) (rs2 rs3 : Reg) : FormRoundTrip.Statement (.rrrShaXor rd rs1 f rs2 rs3) := rfl
theorem FormRoundTrip.rrrShaSha (rd rs1 : Reg) (f : Bool) (rs2 rs3 : Reg) : FormRoundTrip.Statement (.rrrShaSha rd rs1 f rs2 rs3) := rfl
theorem FormRoundTrip.rmLd (rd rs1 : Reg) (m : Mode) (k : BitVec 16) : FormRoundTrip.Statement (.rmLd rd rs1 m k) := rfl
theorem FormRoundTrip.rmSt (rd rs1 : Reg) (m : Mode) (k : BitVec 16) : FormRoundTrip.Statement (.rmSt rd rs1 m k) := rfl
theorem FormRoundTrip.rrmLdAdd (rd rs1 : Reg) (m : Mode) (rs2 : Reg) (j : BitVec 5) (e : Bool) : FormRoundTrip.Statement (.rrmLdAdd rd rs1 m rs2 j e) := rfl
theorem FormRoundTrip.rrmLdhAdd (rd rs1 : Reg) (m : Mode) (rs2 : Reg) (j : BitVec 5) : FormRoundTrip.Statement (.rrmLdhAdd rd rs1 m rs2 j) := rfl
theorem FormRoundTrip.rrmLdhuAdd (rd rs1 : Reg) (m : Mode) (rs2 : Reg) (j : BitVec 5) : FormRoundTrip.Statement (.rrmLdhuAdd rd rs1 m rs2 j) := rfl
theorem FormRoundTrip.rrmLdbAdd (rd rs1 : Reg) (m : Mode) (rs2 : Reg) (j : BitVec 5) : FormRoundTrip.Statement (.rrmLdbAdd rd rs1 m rs2 j) := rfl
theorem FormRoundTrip.rrmLdbuAdd (rd rs1 : Reg) (m : Mode) (rs2 : Reg) (j : BitVec 5) : FormRoundTrip.Statement (.rrmLdbuAdd rd rs1 m rs2 j) := rfl
theorem FormRoundTrip.rrmStAdd (rd rs1 : Reg) (m : Mode) (rs2 : Reg) (j : BitVec 5) (e : Bool) : FormRoundTrip.Statement (.rrmStAdd rd rs1 m rs2 j e) := rfl
theorem FormRoundTrip.rrmSthAdd (rd rs1 : Reg) (m : Mode) (rs2 : Reg) (j : BitVec 5) (e : Bool) : FormRoundTrip.Statement (.rrmSthAdd rd rs1 m rs2 j e) := rfl
theorem FormRoundTrip.rrmStbAdd (rd rs1 : Reg) (m : Mode) (rs2 : Reg) (j : BitVec 5) (e : Bool) : FormRoundTrip.Statement (.rrmStbAdd rd rs1 m rs2 j e) := rfl
theorem FormRoundTrip.rrmLdAddc (rd rs1 : Reg) (m : Mode) (rs2 : Reg) (j : BitVec 5) (e : Bool) : FormRoundTrip.Statement (.rrmLdAddc rd rs1 m rs2 j e) := rfl
theorem FormRoundTrip.rrmLdhAddc (rd rs1 : Reg) (m : Mode) (rs2 : Reg) (j : BitVec 5) : FormRoundTrip.Statement (.rrmLdhAddc rd rs1 m rs2 j) := rfl
theorem FormRoundTrip.rrmLdhuAddc (rd rs1 : Reg) (m : Mode) (rs2 : Reg) (j : BitVec 5) : FormRoundTrip.Statement (.rrmLdhuAddc rd rs1 m rs2 j) := rfl
theorem FormRoundTrip.rrmLdbAddc (rd rs1 : Reg) (m : Mode) (rs2 : Reg) (j : BitVec 5) : FormRoundTrip.Statement (.rrmLdbAddc rd rs1 m rs2 j) := rfl
theorem FormRoundTrip.rrmLdbuAddc (rd rs1 : Reg) (m : Mode) (rs2 : Reg) (j : BitVec 5) : FormRoundTrip.Statement (.rrmLdbuAddc rd rs1 m rs2 j) := rfl
theorem FormRoundTrip.rrmStAddc (rd rs1 : Reg) (m : Mode) (rs2 : Reg) (j : BitVec 5) (e : Bool) : FormRoundTrip.Statement (.rrmStAddc rd rs1 m rs2 j e) := rfl
theorem FormRoundTrip.rrmSthAddc (rd rs1 : Reg) (m : Mode) (rs2 : Reg) (j : BitVec 5) (e : Bool) : FormRoundTrip.Statement (.rrmSthAddc rd rs1 m rs2 j e) := rfl
theorem FormRoundTrip.rrmStbAddc (rd rs1 : Reg) (m : Mode) (rs2 : Reg) (j : BitVec 5) (e : Bool) : FormRoundTrip.Statement (.rrmStbAddc rd rs1 m rs2 j e) := rfl
theorem FormRoundTrip.rrmLdSub (rd rs1 : Reg) (m : Mode) (rs2 : Reg) (j : BitVec 5) (e : Bool) : FormRoundTrip.Statement (.rrmLdSub rd rs1 m rs2 j e) := rfl
theorem FormRoundTrip.rrmLdhSub (rd rs1 : Reg) (m : Mode) (rs2 : Reg) (j : BitVec 5) : FormRoundTrip.Statement (.rrmLdhSub rd rs1 m rs2 j) := rfl
theorem FormRoundTrip.rrmLdhuSub (rd rs1 : Reg) (m : Mode) (rs2 : Reg) (j : BitVec 5) : FormRoundTrip.Statement (.rrmLdhuSub rd rs1 m rs2 j) := rfl
theorem FormRoundTrip.rrmLdbSub (rd rs1 : Reg) (m : Mode) (rs2 : Reg) (j : BitVec 5) : FormRoundTrip.Statement (.rrmLdbSub rd rs1 m rs2 j) := rfl
theorem FormRoundTrip.rrmLdbuSub (rd rs1 : Reg) (m : Mode) (rs2 : Reg) (j : BitVec 5) : FormRoundTrip.Statement (.rrmLdbuSub rd rs1 m rs2 j) := rfl
theorem FormRoundTrip.rrmStSub (rd rs1 : Reg) (m : Mode) (rs2 : Reg) (j : BitVec 5) (e : Bool) : FormRoundTrip.Statement (.rrmStSub rd rs1 m rs2 j e) := rfl
theorem FormRoundTrip.rrmSthSub (rd rs1 : Reg) (m : Mode) (rs2 : Reg) (j : BitVec 5) (e : Bool) : FormRoundTrip.Statement (.rrmSthSub rd rs1 m rs2 j e) := rfl
theorem FormRoundTrip.rrmStbSub (rd rs1 : Reg) (m : Mode) (rs2 : Reg) (j : BitVec 5) (e : Bool) : FormRoundTrip.Statement (.rrmStbSub rd rs1 m rs2 j e) := rfl
theorem FormRoundTrip.rrmLdSubb (rd rs1 : Reg) (m : Mode) (rs2 : Reg) (j : BitVec 5) (e : Bool) : FormRoundTrip.Statement (.rrmLdSubb rd rs1 m rs2 j e) := rfl
theorem FormRoundTrip.rrmLdhSubb (rd rs1 : Reg) (m : Mode) (rs2 : Reg) (j : BitVec 5) : FormRoundTrip.Statement (.rrmLdhSubb rd rs1 m rs2 j) := rfl
theorem FormRoundTrip.rrmLdhuSubb (rd rs1 : Reg) (m : Mode) (rs2 : Reg) (j : BitVec 5) : FormRoundTrip.Statement (.rrmLdhuSubb rd rs1 m rs2 j) := rfl
theorem FormRoundTrip.rrmLdbSubb (rd rs1 : Reg) (m : Mode) (rs2 : Reg) (j : BitVec 5) : FormRoundTrip.Statement (.rrmLdbSubb rd rs1 m rs2 j) := rfl
theorem FormRoundTrip.rrmLdbuSubb (rd rs1 : Reg) (m : Mode) (rs2 : Reg) (j : BitVec 5) : FormRoundTrip.Statement (.rrmLdbuSubb rd rs1 m rs2 j) := rfl
theorem FormRoundTrip.rrmStSubb (rd rs1 : Reg) (m : Mode) (rs2 : Reg) (j : BitVec 5) (e : Bool) : FormRoundTrip.Statement (.rrmStSubb rd rs1 m rs2 j e) := rfl
theorem FormRoundTrip.rrmSthSubb (rd rs1 : Reg) (m : Mode) (rs2 : Reg) (j : BitVec 5) (e : Bool) : FormRoundTrip.Statement (.rrmSthSubb rd rs1 m rs2 j e) := rfl
theorem FormRoundTrip.rrmStbSubb (rd rs1 : Reg) (m : Mode) (rs2 : Reg) (j : BitVec 5) (e : Bool) : FormRoundTrip.Statement (.rrmStbSubb rd rs1 m rs2 j e) := rfl
theorem FormRoundTrip.rrmLdAnd (rd rs1 : Reg) (m : Mode) (rs2 : Reg) (j : BitVec 5) (e : Bool) : FormRoundTrip.Statement (.rrmLdAnd rd rs1 m rs2 j e) := rfl
theorem FormRoundTrip.rrmLdhAnd (rd rs1 : Reg) (m : Mode) (rs2 : Reg) (j : BitVec 5) : FormRoundTrip.Statement (.rrmLdhAnd rd rs1 m rs2 j) := rfl
theorem FormRoundTrip.rrmLdhuAnd (rd rs1 : Reg) (m : Mode) (rs2 : Reg) (j : BitVec 5) : FormRoundTrip.Statement (.rrmLdhuAnd rd rs1 m rs2 j) := rfl
theorem FormRoundTrip.rrmLdbAnd (rd rs1 : Reg) (m : Mode) (rs2 : Reg) (j : BitVec 5) : FormRoundTrip.Statement (.rrmLdbAnd rd rs1 m rs2 j) := rfl
theorem FormRoundTrip.rrmLdbuAnd (rd rs1 : Reg) (m : Mode) (rs2 : Reg) (j : BitVec 5) : FormRoundTrip.Statement (.rrmLdbuAnd rd rs1 m rs2 j) := rfl
theorem FormRoundTrip.rrmStAnd (rd rs1 : Reg) (m : Mode) (rs2 : Reg) (j : BitVec 5) (e : Bool) : FormRoundTrip.Statement (.rrmStAnd rd rs1 m rs2 j e) := rfl
theorem FormRoundTrip.rrmSthAnd (rd rs1 : Reg) (m : Mode) (rs2 : Reg) (j : BitVec 5) (e : Bool) : FormRoundTrip.Statement (.rrmSthAnd rd rs1 m rs2 j e) := rfl
theorem FormRoundTrip.rrmStbAnd (rd rs1 : Reg) (m : Mode) (rs2 : Reg) (j : BitVec 5) (e : Bool) : FormRoundTrip.Statement (.rrmStbAnd rd rs1 m rs2 j e) := rfl
theorem FormRoundTrip.rrmLdOr (rd rs1 : Reg) (m : Mode) (rs2 : Reg) (j : BitVec 5) (e : Bool) : FormRoundTrip.Statement (.rrmLdOr rd rs1 m rs2 j e) := rfl
theorem FormRoundTrip.rrmLdhOr (rd rs1 : Reg) (m : Mode) (rs2 : Reg) (j : BitVec 5) : FormRoundTrip.Statement (.rrmLdhOr rd rs1 m rs2 j) := rfl
theorem FormRoundTrip.rrmLdhuOr (rd rs1 : Reg) (m : Mode) (rs2 : Reg) (j : BitVec 5) : FormRoundTrip.Statement (.rrmLdhuOr rd rs1 m rs2 j) := rfl
theorem FormRoundTrip.rrmLdbOr (rd rs1 : Reg) (m : Mode) (rs2 : Reg) (j : BitVec 5) : FormRoundTrip.Statement (.rrmLdbOr rd rs1 m rs2 j) := rfl
theorem FormRoundTrip.rrmLdbuOr (rd rs1 : Reg) (m : Mode) (rs2 : Reg) (j : BitVec 5) : FormRoundTrip.Statement (.rrmLdbuOr rd rs1 m rs2 j) := rfl
theorem FormRoundTrip.rrmStOr (rd rs1 : Reg) (m : Mode) (rs2 : Reg) (j : BitVec 5) (e : Bool) : FormRoundTrip.Statement (.rrmStOr rd rs1 m rs2 j e) := rfl
theorem FormRoundTrip.rrmSthOr (rd rs1 : Reg) (m : Mode) (rs2 : Reg) (j : BitVec 5) (e : Bool) : FormRoundTrip.Statement (.rrmSthOr rd rs1 m rs2 j e) := rfl
theorem FormRoundTrip.rrmStbOr (rd rs1 : Reg) (m : Mode) (rs2 : Reg) (j : BitVec 5) (e : Bool) : FormRoundTrip.Statement (.rrmStbOr rd rs1 m rs2 j e) := rfl
theorem FormRoundTrip.rrmLdXor (rd rs1 : Reg) (m : Mode) (rs2 : Reg) (j : BitVec 5) (e : Bool) : FormRoundTrip.Statement (.rrmLdXor rd rs1 m rs2 j e) := rfl
theorem FormRoundTrip.rrmLdhXor (rd rs1 : Reg) (m : Mode) (rs2 : Reg) (j : BitVec 5) : FormRoundTrip.Statement (.rrmLdhXor rd rs1 m rs2 j) := rfl
theorem FormRoundTrip.rrmLdhuXor (rd rs1 : Reg) (m : Mode) (rs2 : Reg) (j : BitVec 5) : FormRoundTrip.Statement (.rrmLdhuXor rd rs1 m rs2 j) := rfl
theorem FormRoundTrip.rrmLdbXor (rd rs1 : Reg) (m : Mode) (rs2 : Reg) (j : BitVec 5) : FormRoundTrip.Statement (.rrmLdbXor rd rs1 m rs2 j) := rfl
theorem FormRoundTrip.rrmLdbuXor (rd rs1 : Reg) (m : Mode) (rs2 : Reg) (j : BitVec 5) : FormRoundTrip.Statement (.rrmLdbuXor rd rs1 m rs2 j) := rfl
theorem FormRoundTrip.rrmStXor (rd rs1 : Reg) (m : Mode) (rs2 : Reg) (j : BitVec 5) (e : Bool) : FormRoundTrip.Statement (.rrmStXor rd rs1 m rs2 j e) := rfl
theorem FormRoundTrip.rrmSthXor (rd rs1 : Reg) (m : Mode) (rs2 : Reg) (j : BitVec 5) (e : Bool) : FormRoundTrip.Statement (.rrmSthXor rd rs1 m rs2 j e) := rfl
theorem FormRoundTrip.rrmStbXor (rd rs1 : Reg) (m : Mode) (rs2 : Reg) (j : BitVec 5) (e : Bool) : FormRoundTrip.Statement (.rrmStbXor rd rs1 m rs2 j e) := rfl
theorem FormRoundTrip.rrmLdSh (rd rs1 : Reg) (m : Mode) (rs2 : Reg) (yle : BitVec 3) : FormRoundTrip.Statement (.rrmLdSh rd rs1 m rs2 yle) := rfl
theorem FormRoundTrip.rrmLdSha (rd rs1 : Reg) (m : Mode) (rs2 : Reg) (yle : BitVec 3) : FormRoundTrip.Statement (.rrmLdSha rd rs1 m rs2 yle) := rfl
theorem FormRoundTrip.rrmStSh (rd rs1 : Reg) (m : Mode) (rs2 : Reg) (yle : BitVec 3) : FormRoundTrip.Statement (.rrmStSh rd rs1 m rs2 yle) := rfl
theorem FormRoundTrip.rrmStSha (rd rs1 : Reg) (m : Mode) (rs2 : Reg) (yle : BitVec 3) : FormRoundTrip.Statement (.rrmStSha rd rs1 m rs2 yle) := rfl
theorem FormRoundTrip.brT (k : BitVec 23) : FormRoundTrip.Statement (.brT k) := rfl
theorem FormRoundTrip.brF (k : BitVec 23) : FormRoundTrip.Statement (.brF k) := rfl
theorem FormRoundTrip.brHi (k : BitVec 23) : FormRoundTrip.Statement (.brHi k) := rfl
theorem FormRoundTrip.brLs (k : BitVec 23) : FormRoundTrip.Statement (.brLs k) := rfl
theorem FormRoundTrip.brCc (k : BitVec 23) : FormRoundTrip.Statement (.brCc k) := rfl
theorem FormRoundTrip.brCs (k : BitVec 23) : FormRoundTrip.Statement (.brCs k) := rfl
theorem FormRoundTrip.brNe (k : BitVec 23) : FormRoundTrip.Statement (.brNe k) := rfl
theorem FormRoundTrip.brEq (k : BitVec 23) : FormRoundTrip.Statement (.brEq k) := rfl
theorem FormRoundTrip.brVc (k : BitVec 23) : FormRoundTrip.Statement (.brVc k) := rfl
theorem FormRoundTrip.brVs (k : BitVec 23) : FormRoundTrip.Statement (.brVs k) := rfl
theorem FormRoundTrip.brPl (k : BitVec 23) : FormRoundTrip.Statement (.brPl k) := rfl
theorem FormRoundTrip.brMi (k : BitVec 23) : FormRoundTrip.Statement (.brMi k) := rfl
theorem FormRoundTrip.brGe (k : BitVec 23) : FormRoundTrip.Statement (.brGe k) := rfl
theorem FormRoundTrip.brLt (k : BitVec 23) : FormRoundTrip.Statement (.brLt k) := rfl
theorem FormRoundTrip.brGt (k : BitVec 23) : FormRoundTrip.Statement (.brGt k) := rfl
theorem FormRoundTrip.brLe (k : BitVec 23) : FormRoundTrip.Statement (.brLe k) := rfl
theorem FormRoundTrip.brrT (k : BitVec 23) : FormRoundTrip.Statement (.brrT k) := rfl
theorem FormRoundTrip.brrF (k : BitVec 23) : FormRoundTrip.Statement (.brrF k) := rfl
theorem FormRoundTrip.brrHi (k : BitVec 23) : FormRoundTrip.Statement (.brrHi k) := rfl
theorem FormRoundTrip.brrLs (k : BitVec 23) : FormRoundTrip.Statement (.brrLs k) := rfl
theorem FormRoundTrip.brrCc (k : BitVec 23) : FormRoundTrip.Statement (.brrCc k) := rfl
theorem FormRoundTrip.brrCs (k : BitVec 23) : FormRoundTrip.Statement (.brrCs k) := rfl
theorem FormRoundTrip.brrNe (k : BitVec 23) : FormRoundTrip.Statement (.brrNe k) := rfl
theorem FormRoundTrip.brrEq (k : BitVec 23) : FormRoundTrip.Statement (.brrEq k) := rfl
theorem FormRoundTrip.brrVc (k : BitVec 23) : FormRoundTrip.Statement (.brrVc k) := rfl
theorem FormRoundTrip.brrVs (k : BitVec 23) : FormRoundTrip.Statement (.brrVs k) := rfl
theorem FormRoundTrip.brrPl (k : BitVec 23) : FormRoundTrip.Statement (.brrPl k) := rfl
theorem FormRoundTrip.brrMi (k : BitVec 23) : FormRoundTrip.Statement (.brrMi k) := rfl
theorem FormRoundTrip.brrGe (k : BitVec 23) : FormRoundTrip.Statement (.brrGe k) := rfl
theorem FormRoundTrip.brrLt (k : BitVec 23) : FormRoundTrip.Statement (.brrLt k) := rfl
theorem FormRoundTrip.brrGt (k : BitVec 23) : FormRoundTrip.Statement (.brrGt k) := rfl
theorem FormRoundTrip.brrLe (k : BitVec 23) : FormRoundTrip.Statement (.brrLe k) := rfl
theorem FormRoundTrip.punt : FormRoundTrip.Statement (.punt) := rfl
theorem FormRoundTrip.slsLd (rd : Reg) (a : BitVec 21) : FormRoundTrip.Statement (.slsLd rd a) := rfl
theorem FormRoundTrip.slsSt (rd : Reg) (a : BitVec 21) : FormRoundTrip.Statement (.slsSt rd a) := rfl
theorem FormRoundTrip.sli (rd : Reg) (k : BitVec 21) : FormRoundTrip.Statement (.sli rd k) := rfl
theorem FormRoundTrip.splsLdh (rd rs1 : Reg) (m : Mode) (k : BitVec 10) : FormRoundTrip.Statement (.splsLdh rd rs1 m k) := rfl
theorem FormRoundTrip.splsLdhu (rd rs1 : Reg) (m : Mode) (k : BitVec 10) : FormRoundTrip.Statement (.splsLdhu rd rs1 m k) := rfl
theorem FormRoundTrip.splsLdb (rd rs1 : Reg) (m : Mode) (k : BitVec 10) : FormRoundTrip.Statement (.splsLdb rd rs1 m k) := rfl
theorem FormRoundTrip.splsLdbu (rd rs1 : Reg) (m : Mode) (k : BitVec 10) : FormRoundTrip.Statement (.splsLdbu rd rs1 m k) := rfl
theorem FormRoundTrip.splsSth (rd rs1 : Reg) (m : Mode) (e : Bool) (k : BitVec 10) : FormRoundTrip.Statement (.splsSth rd rs1 m e k) := rfl
theorem FormRoundTrip.splsStb (rd rs1 : Reg) (m : Mode) (e : Bool) (k : BitVec 10) : FormRoundTrip.Statement (.splsStb rd rs1 m e k) := rfl
theorem FormRoundTrip.sbrT (rs1 rs3 : Reg) : FormRoundTrip.Statement (.sbrT rs1 rs3) := rfl
theorem FormRoundTrip.sbrF (rs1 rs3 : Reg) : FormRoundTrip.Statement (.sbrF rs1 rs3) := rfl
theorem FormRoundTrip.sbrHi (rs1 rs3 : Reg) : FormRoundTrip.Statement (.sbrHi rs1 rs3) := rfl
theorem FormRoundTrip.sbrLs (rs1 rs3 : Reg) : FormRoundTrip.Statement (.sbrLs rs1 rs3) := rfl
theorem FormRoundTrip.sbrCc (rs1 rs3 : Reg) : FormRoundTrip.Statement (.sbrCc rs1 rs3) := rfl
theorem FormRoundTrip.sbrCs (rs1 rs3 : Reg) : FormRoundTrip.Statement (.sbrCs rs1 rs3) := rfl
theorem FormRoundTrip.sbrNe (rs1 rs3 : Reg) : FormRoundTrip.Statement (.sbrNe rs1 rs3) := rfl
theorem FormRoundTrip.sbrEq (rs1 rs3 : Reg) : FormRoundTrip.Statement (.sbrEq rs1 rs3) := rfl
theorem FormRoundTrip.sbrVc (rs1 rs3 : Reg) : FormRoundTrip.Statement (.sbrVc rs1 rs3) := rfl
theorem FormRoundTrip.sbrVs (rs1 rs3 : Reg) : FormRoundTrip.Statement (.sbrVs rs1 rs3) := rfl
theorem FormRoundTrip.sbrPl (rs1 rs3 : Reg) : FormRoundTrip.Statement (.sbrPl rs1 rs3) := rfl
theorem FormRoundTrip.sbrMi (rs1 rs3 : Reg) : FormRoundTrip.Statement (.sbrMi rs1 rs3) := rfl
theorem FormRoundTrip.sbrGe (rs1 rs3 : Reg) : FormRoundTrip.Statement (.sbrGe rs1 rs3) := rfl
theorem FormRoundTrip.sbrLt (rs1 rs3 : Reg) : FormRoundTrip.Statement (.sbrLt rs1 rs3) := rfl
theorem FormRoundTrip.sbrGt (rs1 rs3 : Reg) : FormRoundTrip.Statement (.sbrGt rs1 rs3) := rfl
theorem FormRoundTrip.sbrLe (rs1 rs3 : Reg) : FormRoundTrip.Statement (.sbrLe rs1 rs3) := rfl

end Sys2Proof.Laws
end

