-- ==== Sys2Proof/Tests/Slice0.lean ====
section
/-! SUPPORT. The model's own tests: ill-formed terms refused, words written out from the encodings of
30_encoding.md decoded, single steps with the results of 95_test_vectors.md, and for every statement with
hypotheses a state and operands that meet them. Every expected value comes from the spec, those of
registers away from its defaults from log entry 10. -/

namespace Sys2Proof.Tests

open Sys2Proof Sys2Proof.Machine

/-! ## Well-formedness: an ill-formed term for each check (60_exceptions.md R392) -/

theorem test_wf_ri_rd : (Instr.riAdd 31#5 6#5 false false 0#16).violation = some (.isrAccess .rd) := by decide
theorem test_wf_ri_rs1 : (Instr.riAdd 5#5 31#5 false false 0#16).violation = some (.isrAccess .rs1) := by decide
theorem test_wf_ri_amount : (Instr.riSh 5#5 6#5 false 32#16).violation = some (.shiftRange 32) ∧
    (Instr.riSha 5#5 6#5 false 0xFFE0#16).violation = some (.shiftRange (-32)) ∧
    (Instr.riSh 5#5 6#5 false 31#16).wellFormed = true ∧
    (Instr.riSha 5#5 6#5 false 0xFFE1#16).wellFormed = true := by decide
theorem test_wf_rr_rd : (Instr.rrSub 31#5 6#5 false 7#5 0#5).violation = some (.isrAccess .rd) := by decide
theorem test_wf_rr_rs2 : (Instr.rrAdd 5#5 6#5 false 31#5 0#5).violation = some (.isrAccess .rs2) := by decide
theorem test_wf_rr_jump : (Instr.rrAdd 2#5 6#5 false 7#5 0#5).wellFormed = true := by decide
theorem test_wf_rrr_rd : (Instr.rrrAddAdd 2#5 6#5 false false 7#5 31#5).violation = some (.restrictedRd .rrr 2#5) := by
  decide
theorem test_wf_rrr_rs3 : (Instr.rrrAddAdd 5#5 6#5 false false 7#5 31#5).violation = some (.isrAccess .rs3) := by
  decide
theorem test_wf_rm_rd : (Instr.rmLd 31#5 2#5 .post 4#16).violation = some (.restrictedRd .rm 31#5) := by decide
theorem test_wf_rm_base : (Instr.rmLd 5#5 2#5 .post 4#16).violation = some (.restrictedBase 2#5) ∧
    (Instr.rmLd 5#5 2#5 .off 4#16).wellFormed = true := by decide
theorem test_wf_rrm_rs2 : (Instr.rrmLdAdd 5#5 6#5 .base 31#5 0#5 false).violation = some (.isrAccess .rs2) := by decide
theorem test_wf_rrm_base : (Instr.rrmStSh 5#5 2#5 .pre 7#5 0#3).violation = some (.restrictedBase 2#5) := by decide
theorem test_wf_sls_rd : (Instr.slsSt 31#5 0x100#21).violation = some (.restrictedRd .sls 31#5) := by decide
theorem test_wf_sli_rd : (Instr.sli 2#5 0x100#21).violation = some (.restrictedRd .sli 2#5) := by decide
theorem test_wf_spls_base : (Instr.splsLdh 5#5 2#5 .post 2#10).violation = some (.restrictedBase 2#5) := by decide
theorem test_wf_sbr_rs1 : (Instr.sbrF 31#5 11#5).violation = some (.isrAccess .rs1) := by decide

/-! ## Decoding: one word of each of the 210 rows, from the bit patterns of spec/opcode_table.json and the fields
of 30_encoding.md R101 to R111 -/

/-- Every word decodes to its instruction and is the word of that instruction. -/
def decodesTo (l : List (Word × Instr)) : Bool :=
  l.all (fun p => decide (decode true p.1 = .ok p.2) && (encode p.2 == p.1))

theorem test_decode_ri : decodesTo [
    (0x02AB8001#32, .riAdd 5#5 10#5 true true 0x8001#16),
    (0x12AB8001#32, .riAddc 5#5 10#5 true true 0x8001#16),
    (0x22AB8001#32, .riSub 5#5 10#5 true true 0x8001#16),
    (0x32AB8001#32, .riSubb 5#5 10#5 true true 0x8001#16),
    (0x42AB8001#32, .riAnd 5#5 10#5 true true 0x8001#16),
    (0x52AB8001#32, .riOr 5#5 10#5 true true 0x8001#16),
    (0x62AB8001#32, .riXor 5#5 10#5 true true 0x8001#16),
    (0x72AA8001#32, .riSh 5#5 10#5 true 0x8001#16),
    (0x72AB8001#32, .riSha 5#5 10#5 true 0x8001#16)] = true := by decide

theorem test_decode_rr : decodesTo [
    (0xC2AA3898#32, .rrAdd 5#5 10#5 true 7#5 19#5),
    (0xC2AA3998#32, .rrAddc 5#5 10#5 true 7#5 19#5),
    (0xC2AA3A98#32, .rrSub 5#5 10#5 true 7#5 19#5),
    (0xC2AA3B98#32, .rrSubb 5#5 10#5 true 7#5 19#5),
    (0xC2AA3C98#32, .rrAnd 5#5 10#5 true 7#5 19#5),
    (0xC2AA3D98#32, .rrOr 5#5 10#5 true 7#5 19#5),
    (0xC2AA3E98#32, .rrXor 5#5 10#5 true 7#5 19#5),
    (0xC2AA3F80#32, .rrSh 5#5 10#5 true 7#5),
    (0xC2AA3FC0#32, .rrSha 5#5 10#5 true 7#5)] = true := by decide

theorem test_decode_rrr_add : decodesTo [
    (0xD2AA38C0#32, .rrrAddAdd 5#5 10#5 true false 7#5 24#5),
    (0xD2AA38C1#32, .rrrAddAddc 5#5 10#5 true false 7#5 24#5),
    (0xD2AA38C2#32, .rrrAddSub 5#5 10#5 true false 7#5 24#5),
    (0xD2AA38C3#32, .rrrAddSubb 5#5 10#5 true false 7#5 24#5),
    (0xD2AA38C4#32, .rrrAddAnd 5#5 10#5 true false 7#5 24#5),
    (0xD2AA38C5#32, .rrrAddOr 5#5 10#5 true false 7#5 24#5),
    (0xD2AA38C6#32, .rrrAddXor 5#5 10#5 true false 7#5 24#5),
    (0xD2AA38C7#32, .rrrAddSha 5#5 10#5 true false 7#5 24#5)] = true := by decide

theorem test_decode_rrr_addc : decodesTo [
    (0xD2AA39C0#32, .rrrAddcAdd 5#5 10#5 true false 7#5 24#5),
    (0xD2AA39C1#32, .rrrAddcAddc 5#5 10#5 true false 7#5 24#5),
    (0xD2AA39C2#32, .rrrAddcSub 5#5 10#5 true false 7#5 24#5),
    (0xD2AA39C3#32, .rrrAddcSubb 5#5 10#5 true false 7#5 24#5),
    (0xD2AA39C4#32, .rrrAddcAnd 5#5 10#5 true false 7#5 24#5),
    (0xD2AA39C5#32, .rrrAddcOr 5#5 10#5 true false 7#5 24#5),
    (0xD2AA39C6#32, .rrrAddcXor 5#5 10#5 true false 7#5 24#5),
    (0xD2AA39C7#32, .rrrAddcSha 5#5 10#5 true false 7#5 24#5)] = true := by decide

theorem test_decode_rrr_sub : decodesTo [
    (0xD2AA3AC0#32, .rrrSubAdd 5#5 10#5 true false 7#5 24#5),
    (0xD2AA3AC1#32, .rrrSubAddc 5#5 10#5 true false 7#5 24#5),
    (0xD2AA3AC2#32, .rrrSubSub 5#5 10#5 true false 7#5 24#5),
    (0xD2AA3AC3#32, .rrrSubSubb 5#5 10#5 true false 7#5 24#5),
    (0xD2AA3AC4#32, .rrrSubAnd 5#5 10#5 true false 7#5 24#5),
    (0xD2AA3AC5#32, .rrrSubOr 5#5 10#5 true false 7#5 24#5),
    (0xD2AA3AC6#32, .rrrSubXor 5#5 10#5 true false 7#5 24#5),
    (0xD2AA3AC7#32, .rrrSubSha 5#5 10#5 true false 7#5 24#5)] = true := by decide

theorem test_decode_rrr_subb : decodesTo [
    (0xD2AA3BC0#32, .rrrSubbAdd 5#5 10#5 true false 7#5 24#5),
    (0xD2AA3BC1#32, .rrrSubbAddc 5#5 10#5 true false 7#5 24#5),
    (0xD2AA3BC2#32, .rrrSubbSub 5#5 10#5 true false 7#5 24#5),
    (0xD2AA3BC3#32, .rrrSubbSubb 5#5 10#5 true false 7#5 24#5),
    (0xD2AA3BC4#32, .rrrSubbAnd 5#5 10#5 true false 7#5 24#5),
    (0xD2AA3BC5#32, .rrrSubbOr 5#5 10#5 true false 7#5 24#5),
    (0xD2AA3BC6#32, .rrrSubbXor 5#5 10#5 true false 7#5 24#5),
    (0xD2AA3BC7#32, .rrrSubbSha 5#5 10#5 true false 7#5 24#5)] = true := by decide

theorem test_decode_rrr_and : decodesTo [
    (0xD2AA3CC0#32, .rrrAndAdd 5#5 10#5 true false 7#5 24#5),
    (0xD2AA3CC1#32, .rrrAndAddc 5#5 10#5 true false 7#5 24#5),
    (0xD2AA3CC2#32, .rrrAndSub 5#5 10#5 true false 7#5 24#5),
    (0xD2AA3CC3#32, .rrrAndSubb 5#5 10#5 true false 7#5 24#5),
    (0xD2AA3CC4#32, .rrrAndAnd 5#5 10#5 true false 7#5 24#5),
    (0xD2AA3CC5#32, .rrrAndOr 5#5 10#5 true false 7#5 24#5),
    (0xD2AA3CC6#32, .rrrAndXor 5#5 10#5 true false 7#5 24#5),
    (0xD2AA3CC7#32, .rrrAndSha 5#5 10#5 true false 7#5 24#5)] = true := by decide

theorem test_decode_rrr_or : decodesTo [
    (0xD2AA3DC0#32, .rrrOrAdd 5#5 10#5 true false 7#5 24#5),
    (0xD2AA3DC1#32, .rrrOrAddc 5#5 10#5 true false 7#5 24#5),
    (0xD2AA3DC2#32, .rrrOrSub 5#5 10#5 true false 7#5 24#5),
    (0xD2AA3DC3#32, .rrrOrSubb 5#5 10#5 true false 7#5 24#5),
    (0xD2AA3DC4#32, .rrrOrAnd 5#5 10#5 true false 7#5 24#5),
    (0xD2AA3DC5#32, .rrrOrOr 5#5 10#5 true false 7#5 24#5),
    (0xD2AA3DC6#32, .rrrOrXor 5#5 10#5 true false 7#5 24#5),
    (0xD2AA3DC7#32, .rrrOrSha 5#5 10#5 true false 7#5 24#5)] = true := by decide

theorem test_decode_rrr_xor : decodesTo [
    (0xD2AA3EC0#32, .rrrXorAdd 5#5 10#5 true false 7#5 24#5),
    (0xD2AA3EC1#32, .rrrXorAddc 5#5 10#5 true false 7#5 24#5),
    (0xD2AA3EC2#32, .rrrXorSub 5#5 10#5 true false 7#5 24#5),
    (0xD2AA3EC3#32, .rrrXorSubb 5#5 10#5 true false 7#5 24#5),
    (0xD2AA3EC4#32, .rrrXorAnd 5#5 10#5 true false 7#5 24#5),
    (0xD2AA3EC5#32, .rrrXorOr 5#5 10#5 true false 7#5 24#5),
    (0xD2AA3EC6#32, .rrrXorXor 5#5 10#5 true false 7#5 24#5),
    (0xD2AA3EC7#32, .rrrXorSha 5#5 10#5 true false 7#5 24#5)] = true := by decide

theorem test_decode_rrr_sh : decodesTo [
    (0xD2AA3FC0#32, .rrrShAdd 5#5 10#5 true 7#5 24#5),
    (0xD2AA3FC1#32, .rrrShAddc 5#5 10#5 true 7#5 24#5),
    (0xD2AA3FC2#32, .rrrShSub 5#5 10#5 true 7#5 24#5),
    (0xD2AA3FC3#32, .rrrShSubb 5#5 10#5 true 7#5 24#5),
    (0xD2AA3FC4#32, .rrrShAnd 5#5 10#5 true 7#5 24#5),
    (0xD2AA3FC5#32, .rrrShOr 5#5 10#5 true 7#5 24#5),
    (0xD2AA3FC6#32, .rrrShXor 5#5 10#5 true 7#5 24#5),
    (0xD2AA3FC7#32, .rrrShSha 5#5 10#5 true 7#5 24#5)] = true := by decide

theorem test_decode_rrr_sha : decodesTo [
    (0xD2AB3FC0#32, .rrrShaAdd 5#5 10#5 true 7#5 24#5),
    (0xD2AB3FC1#32, .rrrShaAddc 5#5 10#5 true 7#5 24#5),
    (0xD2AB3FC2#32, .rrrShaSub 5#5 10#5 true 7#5 24#5),
    (0xD2AB3FC3#32, .rrrShaSubb 5#5 10#5 true 7#5 24#5),
    (0xD2AB3FC4#32, .rrrShaAnd 5#5 10#5 true 7#5 24#5),
    (0xD2AB3FC5#32, .rrrShaOr 5#5 10#5 true 7#5 24#5),
    (0xD2AB3FC6#32, .rrrShaXor 5#5 10#5 true 7#5 24#5),
    (0xD2AB3FC7#32, .rrrShaSha 5#5 10#5 true 7#5 24#5)] = true := by decide

theorem test_decode_rm : decodesTo [
    (0x82AB8001#32, .rmLd 5#5 10#5 .pre 0x8001#16),
    (0x92AB8001#32, .rmSt 5#5 10#5 .pre 0x8001#16)] = true := by decide

theorem test_decode_rrm_add : decodesTo [
    (0xA2AB389B#32, .rrmLdAdd 5#5 10#5 .pre 7#5 19#5 true),
    (0xA2AB3898#32, .rrmLdhAdd 5#5 10#5 .pre 7#5 19#5),
    (0xA2AB3899#32, .rrmLdhuAdd 5#5 10#5 .pre 7#5 19#5),
    (0xA2AB389C#32, .rrmLdbAdd 5#5 10#5 .pre 7#5 19#5),
    (0xA2AB389D#32, .rrmLdbuAdd 5#5 10#5 .pre 7#5 19#5),
    (0xB2A9389B#32, .rrmStAdd 5#5 10#5 .post 7#5 19#5 true),
    (0xB2A93899#32, .rrmSthAdd 5#5 10#5 .post 7#5 19#5 true),
    (0xB2A9389D#32, .rrmStbAdd 5#5 10#5 .post 7#5 19#5 true)] = true := by decide

theorem test_decode_rrm_addc : decodesTo [
    (0xA2AB399B#32, .rrmLdAddc 5#5 10#5 .pre 7#5 19#5 true),
    (0xA2AB3998#32, .rrmLdhAddc 5#5 10#5 .pre 7#5 19#5),
    (0xA2AB3999#32, .rrmLdhuAddc 5#5 10#5 .pre 7#5 19#5),
    (0xA2AB399C#32, .rrmLdbAddc 5#5 10#5 .pre 7#5 19#5),
    (0xA2AB399D#32, .rrmLdbuAddc 5#5 10#5 .pre 7#5 19#5),
    (0xB2A9399B#32, .rrmStAddc 5#5 10#5 .post 7#5 19#5 true),
    (0xB2A93999#32, .rrmSthAddc 5#5 10#5 .post 7#5 19#5 true),
    (0xB2A9399D#32, .rrmStbAddc 5#5 10#5 .post 7#5 19#5 true)] = true := by decide

theorem test_decode_rrm_sub : decodesTo [
    (0xA2AB3A9B#32, .rrmLdSub 5#5 10#5 .pre 7#5 19#5 true),
    (0xA2AB3A98#32, .rrmLdhSub 5#5 10#5 .pre 7#5 19#5),
    (0xA2AB3A99#32, .rrmLdhuSub 5#5 10#5 .pre 7#5 19#5),
    (0xA2AB3A9C#32, .rrmLdbSub 5#5 10#5 .pre 7#5 19#5),
    (0xA2AB3A9D#32, .rrmLdbuSub 5#5 10#5 .pre 7#5 19#5),
    (0xB2A93A9B#32, .rrmStSub 5#5 10#5 .post 7#5 19#5 true),
    (0xB2A93A99#32, .rrmSthSub 5#5 10#5 .post 7#5 19#5 true),
    (0xB2A93A9D#32, .rrmStbSub 5#5 10#5 .post 7#5 19#5 true)] = true := by decide

theorem test_decode_rrm_subb : decodesTo [
    (0xA2AB3B9B#32, .rrmLdSubb 5#5 10#5 .pre 7#5 19#5 true),
    (0xA2AB3B98#32, .rrmLdhSubb 5#5 10#5 .pre 7#5 19#5),
    (0xA2AB3B99#32, .rrmLdhuSubb 5#5 10#5 .pre 7#5 19#5),
    (0xA2AB3B9C#32, .rrmLdbSubb 5#5 10#5 .pre 7#5 19#5),
    (0xA2AB3B9D#32, .rrmLdbuSubb 5#5 10#5 .pre 7#5 19#5),
    (0xB2A93B9B#32, .rrmStSubb 5#5 10#5 .post 7#5 19#5 true),
    (0xB2A93B99#32, .rrmSthSubb 5#5 10#5 .post 7#5 19#5 true),
    (0xB2A93B9D#32, .rrmStbSubb 5#5 10#5 .post 7#5 19#5 true)] = true := by decide

theorem test_decode_rrm_and : decodesTo [
    (0xA2AB3C9B#32, .rrmLdAnd 5#5 10#5 .pre 7#5 19#5 true),
    (0xA2AB3C98#32, .rrmLdhAnd 5#5 10#5 .pre 7#5 19#5),
    (0xA2AB3C99#32, .rrmLdhuAnd 5#5 10#5 .pre 7#5 19#5),
    (0xA2AB3C9C#32, .rrmLdbAnd 5#5 10#5 .pre 7#5 19#5),
    (0xA2AB3C9D#32, .rrmLdbuAnd 5#5 10#5 .pre 7#5 19#5),
    (0xB2A93C9B#32, .rrmStAnd 5#5 10#5 .post 7#5 19#5 true),
    (0xB2A93C99#32, .rrmSthAnd 5#5 10#5 .post 7#5 19#5 true),
    (0xB2A93C9D#32, .rrmStbAnd 5#5 10#5 .post 7#5 19#5 true)] = true := by decide

theorem test_decode_rrm_or : decodesTo [
    (0xA2AB3D9B#32, .rrmLdOr 5#5 10#5 .pre 7#5 19#5 true),
    (0xA2AB3D98#32, .rrmLdhOr 5#5 10#5 .pre 7#5 19#5),
    (0xA2AB3D99#32, .rrmLdhuOr 5#5 10#5 .pre 7#5 19#5),
    (0xA2AB3D9C#32, .rrmLdbOr 5#5 10#5 .pre 7#5 19#5),
    (0xA2AB3D9D#32, .rrmLdbuOr 5#5 10#5 .pre 7#5 19#5),
    (0xB2A93D9B#32, .rrmStOr 5#5 10#5 .post 7#5 19#5 true),
    (0xB2A93D99#32, .rrmSthOr 5#5 10#5 .post 7#5 19#5 true),
    (0xB2A93D9D#32, .rrmStbOr 5#5 10#5 .post 7#5 19#5 true)] = true := by decide

theorem test_decode_rrm_xor : decodesTo [
    (0xA2AB3E9B#32, .rrmLdXor 5#5 10#5 .pre 7#5 19#5 true),
    (0xA2AB3E98#32, .rrmLdhXor 5#5 10#5 .pre 7#5 19#5),
    (0xA2AB3E99#32, .rrmLdhuXor 5#5 10#5 .pre 7#5 19#5),
    (0xA2AB3E9C#32, .rrmLdbXor 5#5 10#5 .pre 7#5 19#5),
    (0xA2AB3E9D#32, .rrmLdbuXor 5#5 10#5 .pre 7#5 19#5),
    (0xB2A93E9B#32, .rrmStXor 5#5 10#5 .post 7#5 19#5 true),
    (0xB2A93E99#32, .rrmSthXor 5#5 10#5 .post 7#5 19#5 true),
    (0xB2A93E9D#32, .rrmStbXor 5#5 10#5 .post 7#5 19#5 true)] = true := by decide

theorem test_decode_rrm_sh : decodesTo [
    (0xA2AB3F85#32, .rrmLdSh 5#5 10#5 .pre 7#5 5#3),
    (0xB2A93F85#32, .rrmStSh 5#5 10#5 .post 7#5 5#3)] = true := by decide

theorem test_decode_rrm_sha : decodesTo [
    (0xA2AB3FC5#32, .rrmLdSha 5#5 10#5 .pre 7#5 5#3),
    (0xB2A93FC5#32, .rrmStSha 5#5 10#5 .post 7#5 5#3)] = true := by decide

theorem test_decode_br : decodesTo [
    (0xE1000004#32, .brT 0x400001#23),
    (0xE1000005#32, .brF 0x400001#23),
    (0xE3000004#32, .brHi 0x400001#23),
    (0xE3000005#32, .brLs 0x400001#23),
    (0xE5000004#32, .brCc 0x400001#23),
    (0xE5000005#32, .brCs 0x400001#23),
    (0xE7000004#32, .brNe 0x400001#23),
    (0xE7000005#32, .brEq 0x400001#23),
    (0xE9000004#32, .brVc 0x400001#23),
    (0xE9000005#32, .brVs 0x400001#23),
    (0xEB000004#32, .brPl 0x400001#23),
    (0xEB000005#32, .brMi 0x400001#23),
    (0xED000004#32, .brGe 0x400001#23),
    (0xED000005#32, .brLt 0x400001#23),
    (0xEF000004#32, .brGt 0x400001#23),
    (0xEF000005#32, .brLe 0x400001#23)] = true := by decide

theorem test_decode_brr : decodesTo [
    (0xE1000006#32, .brrT 0x400001#23),
    (0xE1000007#32, .brrF 0x400001#23),
    (0xE3000006#32, .brrHi 0x400001#23),
    (0xE3000007#32, .brrLs 0x400001#23),
    (0xE5000006#32, .brrCc 0x400001#23),
    (0xE5000007#32, .brrCs 0x400001#23),
    (0xE7000006#32, .brrNe 0x400001#23),
    (0xE7000007#32, .brrEq 0x400001#23),
    (0xE9000006#32, .brrVc 0x400001#23),
    (0xE9000007#32, .brrVs 0x400001#23),
    (0xEB000006#32, .brrPl 0x400001#23),
    (0xEB000007#32, .brrMi 0x400001#23),
    (0xED000006#32, .brrGe 0x400001#23),
    (0xED000007#32, .brrLt 0x400001#23),
    (0xEF000006#32, .brrGt 0x400001#23),
    (0xEF000007#32, .brrLe 0x400001#23)] = true := by decide

theorem test_decode_special : decodesTo [
    (0xF003FF47#32, .punt),
    (0xF2C88001#32, .slsLd 5#5 0x128001#21),
    (0xF2C98001#32, .slsSt 5#5 0x128001#21),
    (0xF2CA8001#32, .sli 5#5 0x128001#21),
    (0xF2AB0E03#32, .splsLdh 5#5 10#5 .pre 0x203#10),
    (0xF2AB1E03#32, .splsLdhu 5#5 10#5 .pre 0x203#10),
    (0xF2AB4E03#32, .splsLdb 5#5 10#5 .pre 0x203#10),
    (0xF2AB5E03#32, .splsLdbu 5#5 10#5 .pre 0x203#10),
    (0xF2AB3603#32, .splsSth 5#5 10#5 .post true 0x203#10),
    (0xF2AB7603#32, .splsStb 5#5 10#5 .post true 0x203#10)] = true := by decide

theorem test_decode_sbr : decodesTo [
    (0xF02BC0C0#32, .sbrT 10#5 24#5),
    (0xF02BC0C1#32, .sbrF 10#5 24#5),
    (0xF22BC0C0#32, .sbrHi 10#5 24#5),
    (0xF22BC0C1#32, .sbrLs 10#5 24#5),
    (0xF42BC0C0#32, .sbrCc 10#5 24#5),
    (0xF42BC0C1#32, .sbrCs 10#5 24#5),
    (0xF62BC0C0#32, .sbrNe 10#5 24#5),
    (0xF62BC0C1#32, .sbrEq 10#5 24#5),
    (0xF82BC0C0#32, .sbrVc 10#5 24#5),
    (0xF82BC0C1#32, .sbrVs 10#5 24#5),
    (0xFA2BC0C0#32, .sbrPl 10#5 24#5),
    (0xFA2BC0C1#32, .sbrMi 10#5 24#5),
    (0xFC2BC0C0#32, .sbrGe 10#5 24#5),
    (0xFC2BC0C1#32, .sbrLt 10#5 24#5),
    (0xFE2BC0C0#32, .sbrGt 10#5 24#5),
    (0xFE2BC0C1#32, .sbrLe 10#5 24#5)] = true := by decide

/-! ## Single steps, with the results of 95_test_vectors.md -/

def putRegs (rs : Vector Word 30) : List (Reg × Word) → Vector Word 30
  | [] => rs
  | (r, v) :: l => match gpr? r with
    | some g => (putRegs rs l).set g.val v g.isLt
    | none => putRegs rs l

/-- A word at 0x1000, four bytes of data at 0x2000, two pages that exist, register 2 read with offset 4. -/
def worldWith (en : Endian) (lc : LogicCarry) (data : List Byte) (w : Word) (regs : List (Reg × Word))
    (g : Flags) : State :=
  { State.reset with
    regs := putRegs State.reset.regs regs
    flags := g
    cia := 0x1000#32
    nia := 0x1004#32
    mem := Memory.writeBytes (Memory.writeBytes [] 0x1000#32 (bytesOf en 4 w)) 0x2000#32 data
    params := { pcReadOffsetWords := 1#30, endian := en, rrrLogicC := lc, hasSbr := true,
                memMap := [⟨0x1000, 0x1000⟩, ⟨0x2000, 0x1000⟩], specialRegs := [], flagsAlias := none } }

def noFlags : Flags := { z := false, n := false, v := false, c := false }

def world (w : Word) (regs : List (Reg × Word)) (g : Flags := noFlags) : State :=
  worldWith .big .clear [0x81#8, 0x82#8, 0xF3#8, 0x84#8] w regs g

def worldKeep (w : Word) (regs : List (Reg × Word)) (g : Flags := noFlags) : State :=
  worldWith .big .keep [] w regs g

def worldLittle (w : Word) (regs : List (Reg × Word)) : State :=
  worldWith .little .clear [0x84#8, 0xF3#8, 0x82#8, 0x81#8] w regs noFlags

def world0 (w : Word) (regs : List (Reg × Word)) : State := worldWith .big .clear [] w regs noFlags

def worldLittle0 (w : Word) (regs : List (Reg × Word)) : State := worldWith .little .clear [] w regs noFlags

/-- The state after one step, if it has one. -/
def ran (s : State) : Option State :=
  match step s with
  | .next t => some t
  | .fault _ => none
  | .refused _ => none

/-- Why one step has no next state. -/
def stopOf (s : State) : Option Refusal :=
  match step s with
  | .next _ => none
  | .fault _ => none
  | .refused r => some r

/-- Register 5 and the flags after one step. -/
def r5Flags (s : State) : Option (Word × Flags) := (ran s).map (fun t => (t.regs.get 4, t.flags))

/-- The late-write slot and register 6 after one step. -/
def lateBase (s : State) : Option (Option Late × Word) := (ran s).map (fun t => (t.lp, t.regs.get 5))

/-- Four bytes of memory after one step. -/
def bytesAfter (s : State) (a : Word) : Option (List Byte) := (ran s).map (fun t => Memory.readBytes t.mem a 4)

/-- The addresses after one step and the shadow of a jump. -/
def pcAfter (s : State) : Option (Word × Word × Bool) := (ran s).map (fun t => (t.cia, t.nia, t.js))

def allConds : List Cond := [.t, .f, .hi, .ls, .cc, .cs, .ne, .eq, .vc, .vs, .pl, .mi, .ge, .lt, .gt, .le]

def conditionRows (l : List (Flags × BitVec 16)) : Bool :=
  l.all (fun p => allConds.map (fun k => Machine.cond k p.1) == (List.range 16).map (fun n => p.2.getLsbD (15 - n)))

/-- V-RI-2: ri.add.f R5, R6, lo(1). -/
theorem test_v_ri_2 : r5Flags (world 0x029A0001#32 [(6#5, 0xFFFFFFFF#32)] ⟨false, false, false, false⟩) =
    some (0x00000000#32, ⟨true, false, false, true⟩) := by decide

/-- V-RI-3: ri.add.f R5, R6, lo(1). -/
theorem test_v_ri_3 : r5Flags (world 0x029A0001#32 [(6#5, 0x7FFFFFFF#32)] ⟨false, false, false, false⟩) =
    some (0x80000000#32, ⟨false, true, true, false⟩) := by decide

/-- V-RI-6: ri.addc.f R5, R6, lo(0). -/
theorem test_v_ri_6 : r5Flags (world 0x129A0000#32 [(6#5, 0xFFFFFFFF#32)] ⟨false, false, false, true⟩) =
    some (0x00000000#32, ⟨true, false, false, true⟩) := by decide

/-- V-RI-7: ri.addc.f R5, R6, lo(0). -/
theorem test_v_ri_7 : r5Flags (world 0x129A0000#32 [(6#5, 0xFFFFFFFF#32)] ⟨false, false, false, false⟩) =
    some (0xFFFFFFFF#32, ⟨false, true, false, false⟩) := by decide

/-- V-RI-10: ri.sub.f R5, R6, lo(1). -/
theorem test_v_ri_10 : r5Flags (world 0x229A0001#32 [(6#5, 0x80000000#32)] ⟨false, false, false, false⟩) =
    some (0x7FFFFFFF#32, ⟨false, false, true, true⟩) := by decide

/-- V-RI-11: ri.sub.f R5, R6, hi(0x8000). -/
theorem test_v_ri_11 : r5Flags (world 0x229B8000#32 [(6#5, 0x00000000#32)] ⟨false, false, false, false⟩) =
    some (0x80000000#32, ⟨false, true, true, false⟩) := by decide

/-- V-RI-12: ri.subb.f R5, R6, lo(5). -/
theorem test_v_ri_12 : r5Flags (world 0x329A0005#32 [(6#5, 0x00000005#32)] ⟨false, false, false, false⟩) =
    some (0xFFFFFFFF#32, ⟨false, true, false, false⟩) := by decide

/-- V-RI-13: ri.subb.f R5, R6, lo(5). -/
theorem test_v_ri_13 : r5Flags (world 0x329A0005#32 [(6#5, 0x00000005#32)] ⟨false, false, false, true⟩) =
    some (0x00000000#32, ⟨true, false, false, true⟩) := by decide

/-- V-RI-14: ri.and R5, R6, lo(0x00FF). -/
theorem test_v_ri_14 : r5Flags (world 0x429800FF#32 [(6#5, 0x12345678#32)] ⟨false, false, false, false⟩) =
    some (0x12340078#32, ⟨false, false, false, false⟩) := by decide

/-- V-RI-16: ri.and.f R5, R6, lo(0). -/
theorem test_v_ri_16 : r5Flags (world 0x429A0000#32 [(6#5, 0x0000FFFF#32)] ⟨false, false, true, true⟩) =
    some (0x00000000#32, ⟨true, false, false, false⟩) := by decide

/-- V-RI-17: ri.or R5, R6, hi(0x1234). -/
theorem test_v_ri_17 : r5Flags (world 0x52991234#32 [(6#5, 0x00005678#32)] ⟨false, false, false, false⟩) =
    some (0x12345678#32, ⟨false, false, false, false⟩) := by decide

/-- V-RI-18: ri.or.f R5, R6, hi(0x8000). -/
theorem test_v_ri_18 : r5Flags (world 0x529B8000#32 [(6#5, 0x00000000#32)] ⟨false, false, false, true⟩) =
    some (0x80000000#32, ⟨false, true, false, false⟩) := by decide

/-- V-RI-19: ri.xor.f R5, R5, lo(0xFFFF). -/
theorem test_v_ri_19 : r5Flags (world 0x6296FFFF#32 [(5#5, 0x0000FFFF#32)] ⟨false, false, false, true⟩) =
    some (0x00000000#32, ⟨true, false, false, false⟩) := by decide

/-- V-RI-20: ri.sh.f R5, R6, 1. -/
theorem test_v_ri_20 : r5Flags (world 0x729A0001#32 [(6#5, 0x80000001#32)] ⟨false, false, false, false⟩) =
    some (0x00000002#32, ⟨false, false, false, true⟩) := by decide

/-- V-RI-23: ri.sha.f R5, R6, -1. -/
theorem test_v_ri_23 : r5Flags (world 0x729BFFFF#32 [(6#5, 0x80000001#32)] ⟨false, false, false, true⟩) =
    some (0xC0000000#32, ⟨false, true, false, false⟩) := by decide

/-- V-RI-26: ri.sha.f R5, R6, 4. -/
theorem test_v_ri_26 : r5Flags (world 0x729B0004#32 [(6#5, 0x18000001#32)] ⟨false, false, false, false⟩) =
    some (0x80000010#32, ⟨false, true, false, true⟩) := by decide

/-- V-RR-1: rr.add.f R5, R6, R7. -/
theorem test_v_rr_1 : r5Flags (world 0xC29A3800#32 [(6#5, 0xFFFFFFFF#32), (7#5, 0x00000001#32)] ⟨false, false, false, false⟩) =
    some (0x00000000#32, ⟨true, false, false, true⟩) := by decide

/-- V-RR-14: rr.add R5, R6, R7. -/
theorem test_v_rr_14 : r5Flags (world 0xC2983800#32 [(6#5, 0xFFFFFFFF#32), (7#5, 0x00000001#32)] ⟨false, false, false, false⟩) =
    some (0x00000000#32, ⟨false, false, false, false⟩) := by decide

/-- V-RR-2: rr.addc.f R5, R6, R7. -/
theorem test_v_rr_2 : r5Flags (world 0xC29A3900#32 [(6#5, 0x7FFFFFFF#32), (7#5, 0x00000000#32)] ⟨false, false, false, true⟩) =
    some (0x80000000#32, ⟨false, true, true, false⟩) := by decide

/-- V-RR-3: rr.sub.f R5, R6, R7. -/
theorem test_v_rr_3 : r5Flags (world 0xC29A3A00#32 [(6#5, 0x00000003#32), (7#5, 0x00000005#32)] ⟨false, false, false, false⟩) =
    some (0xFFFFFFFE#32, ⟨false, true, false, false⟩) := by decide

/-- V-RR-4: rr.sub.f R5, R6, R7. -/
theorem test_v_rr_4 : r5Flags (world 0xC29A3A00#32 [(6#5, 0x7FFFFFFF#32), (7#5, 0xFFFFFFFF#32)] ⟨false, false, false, false⟩) =
    some (0x80000000#32, ⟨false, true, true, false⟩) := by decide

/-- V-RR-5: rr.subb.f R5, R6, R7. -/
theorem test_v_rr_5 : r5Flags (world 0xC29A3B00#32 [(6#5, 0x00000000#32), (7#5, 0x00000000#32)] ⟨false, false, false, false⟩) =
    some (0xFFFFFFFF#32, ⟨false, true, false, false⟩) := by decide

/-- V-RR-6: rr.and.f R5, R6, R7. -/
theorem test_v_rr_6 : r5Flags (world 0xC29A3C00#32 [(6#5, 0xF0F0F0F0#32), (7#5, 0x0FF00FF0#32)] ⟨false, false, true, true⟩) =
    some (0x00F000F0#32, ⟨false, false, false, true⟩) := by decide

/-- V-RR-7: rr.or.f R5, R6, R7. -/
theorem test_v_rr_7 : r5Flags (world 0xC29A3D00#32 [(6#5, 0x80000000#32), (7#5, 0x00000001#32)] ⟨false, false, false, false⟩) =
    some (0x80000001#32, ⟨false, true, false, false⟩) := by decide

/-- V-RR-8: rr.xor.f R5, R6, R6. -/
theorem test_v_rr_8 : r5Flags (world 0xC29A3600#32 [(6#5, 0xDEADBEEF#32)] ⟨false, false, false, true⟩) =
    some (0x00000000#32, ⟨true, false, false, true⟩) := by decide

/-- V-RR-9: rr.sh.f R5, R6, R7. -/
theorem test_v_rr_9 : r5Flags (world 0xC29A3F80#32 [(6#5, 0x18000001#32), (7#5, 0x00000004#32)] ⟨false, false, false, false⟩) =
    some (0x80000010#32, ⟨false, true, false, true⟩) := by decide

/-- V-RR-10: rr.sh.f R5, R6, R7. -/
theorem test_v_rr_10 : r5Flags (world 0xC29A3F80#32 [(6#5, 0x80000010#32), (7#5, 0xFFFFFFFC#32)] ⟨false, false, false, true⟩) =
    some (0x08000001#32, ⟨false, false, false, false⟩) := by decide

/-- V-RR-11: rr.sha.f R5, R6, R7. -/
theorem test_v_rr_11 : r5Flags (world 0xC29A3FC0#32 [(6#5, 0x80000010#32), (7#5, 0xFFFFFFFC#32)] ⟨false, false, false, true⟩) =
    some (0xF8000001#32, ⟨false, true, false, false⟩) := by decide

/-- V-RRR-1: rrr.add.add R5, R6, R7, R8. -/
theorem test_v_rrr_1 : r5Flags (world 0xD2983840#32 [(6#5, 0x0000000A#32), (7#5, 0x00000003#32), (8#5, 0x00000004#32)] ⟨false, false, false, false⟩) =
    some (0x00000011#32, ⟨false, false, false, false⟩) := by decide

/-- V-RRR-2: rrr.sub.add.f R5, R6, R7, R8. -/
theorem test_v_rrr_2 : r5Flags (world 0xD29A3A40#32 [(6#5, 0x0000000A#32), (7#5, 0x00000003#32), (8#5, 0x00000004#32)] ⟨false, false, false, false⟩) =
    some (0x00000003#32, ⟨false, false, false, true⟩) := by decide

/-- V-RRR-3: rrr.add.sub R5, R6, R7, R8. -/
theorem test_v_rrr_3 : r5Flags (world 0xD2983842#32 [(6#5, 0x0000000A#32), (7#5, 0x00000003#32), (8#5, 0x00000004#32)] ⟨false, false, false, false⟩) =
    some (0x00000009#32, ⟨false, false, false, false⟩) := by decide

/-- V-RRR-4: rrr.addc.addc.f R5, R6, R7, R8. -/
theorem test_v_rrr_4 : r5Flags (world 0xD29A3941#32 [(6#5, 0x0000000A#32), (7#5, 0x00000003#32), (8#5, 0x00000004#32)] ⟨false, false, false, true⟩) =
    some (0x00000013#32, ⟨false, false, false, false⟩) := by decide

/-- V-RRR-5: rrr.add.addc.f R5, R6, R7, R8. -/
theorem test_v_rrr_5 : r5Flags (world 0xD29A3841#32 [(6#5, 0x00000000#32), (7#5, 0xFFFFFFFF#32), (8#5, 0x00000001#32)] ⟨false, false, false, false⟩) =
    some (0x00000000#32, ⟨true, false, false, false⟩) := by decide

/-- V-RRR-8: rrr.sh.add.f R5, R6, R7, R8. -/
theorem test_v_rrr_8 : r5Flags (world 0xD29A3F40#32 [(6#5, 0x00000001#32), (7#5, 0x00000003#32), (8#5, 0x00000004#32)] ⟨false, false, false, false⟩) =
    some (0x00000080#32, ⟨false, false, false, false⟩) := by decide

/-- V-RRR-9: rrr.sha.sub R5, R6, R7, R8. -/
theorem test_v_rrr_9 : r5Flags (world 0xD2993F42#32 [(6#5, 0x80000000#32), (7#5, 0x00000000#32), (8#5, 0x00000004#32)] ⟨false, false, false, false⟩) =
    some (0xF8000000#32, ⟨false, false, false, false⟩) := by decide

/-- V-RRR-10: rrr.add.sha R5, R6, R7, R8. -/
theorem test_v_rrr_10 : r5Flags (world 0xD2983847#32 [(6#5, 0x0000000A#32), (7#5, 0xFFFFFF00#32), (8#5, 0xFFFFFFFC#32)] ⟨false, false, false, false⟩) =
    some (0xFFFFFFFA#32, ⟨false, false, false, false⟩) := by decide

/-- V-RRR-6: rrr.and.or.f, `RRR_LOGIC_C = clear`. -/
theorem test_v_rrr_6 : r5Flags (world 0xD29A3C45#32 [(6#5, 0x000000FF#32), (7#5, 0x000000F0#32), (8#5, 0x00000F0F#32)] ⟨false, false, false, true⟩) =
    some (0x000000FF#32, ⟨false, false, false, false⟩) := by decide

/-- V-RRR-7: rrr.and.or.f, `RRR_LOGIC_C = keep`. -/
theorem test_v_rrr_7 : r5Flags (worldKeep 0xD29A3C45#32 [(6#5, 0x000000FF#32), (7#5, 0x000000F0#32), (8#5, 0x00000F0F#32)] ⟨false, false, false, true⟩) =
    some (0x000000FF#32, ⟨false, false, false, true⟩) := by decide

/-- V-RRM-B-ld0. -/
theorem test_v_rrm_b_ld0 : lateBase (world 0xA29A3802#32 [(6#5, 0x00002000#32), (7#5, 0x00000000#32)]) =
    some (some ⟨4, 0x8182F384#32⟩, 0x00002000#32) := by decide

/-- V-RRM-B-ldh2. -/
theorem test_v_rrm_b_ldh2 : lateBase (world 0xA29A3800#32 [(6#5, 0x00002000#32), (7#5, 0x00000002#32)]) =
    some (some ⟨4, 0xFFFFF384#32⟩, 0x00002000#32) := by decide

/-- V-RRM-B-ldhu2. -/
theorem test_v_rrm_b_ldhu2 : lateBase (world 0xA29A3801#32 [(6#5, 0x00002000#32), (7#5, 0x00000002#32)]) =
    some (some ⟨4, 0x0000F384#32⟩, 0x00002000#32) := by decide

/-- V-RRM-B-ldb2. -/
theorem test_v_rrm_b_ldb2 : lateBase (world 0xA29A3804#32 [(6#5, 0x00002000#32), (7#5, 0x00000002#32)]) =
    some (some ⟨4, 0xFFFFFFF3#32⟩, 0x00002000#32) := by decide

/-- V-RRM-B-ldbu3. -/
theorem test_v_rrm_b_ldbu3 : lateBase (world 0xA29A3805#32 [(6#5, 0x00002000#32), (7#5, 0x00000003#32)]) =
    some (some ⟨4, 0x00000084#32⟩, 0x00002000#32) := by decide

/-- V-RRM-L-ld0. -/
theorem test_v_rrm_l_ld0 : lateBase (worldLittle 0xA29A3802#32 [(6#5, 0x00002000#32), (7#5, 0x00000000#32)]) =
    some (some ⟨4, 0x8182F384#32⟩, 0x00002000#32) := by decide

/-- V-RRM-L-ldh2. -/
theorem test_v_rrm_l_ldh2 : lateBase (worldLittle 0xA29A3800#32 [(6#5, 0x00002000#32), (7#5, 0x00000002#32)]) =
    some (some ⟨4, 0xFFFF8182#32⟩, 0x00002000#32) := by decide

/-- V-RRM-L-ldhu2. -/
theorem test_v_rrm_l_ldhu2 : lateBase (worldLittle 0xA29A3801#32 [(6#5, 0x00002000#32), (7#5, 0x00000002#32)]) =
    some (some ⟨4, 0x00008182#32⟩, 0x00002000#32) := by decide

/-- V-RRM-L-ldb2. -/
theorem test_v_rrm_l_ldb2 : lateBase (worldLittle 0xA29A3804#32 [(6#5, 0x00002000#32), (7#5, 0x00000002#32)]) =
    some (some ⟨4, 0xFFFFFF82#32⟩, 0x00002000#32) := by decide

/-- V-RRM-L-ldbu3. -/
theorem test_v_rrm_l_ldbu3 : lateBase (worldLittle 0xA29A3805#32 [(6#5, 0x00002000#32), (7#5, 0x00000003#32)]) =
    some (some ⟨4, 0x00000081#32⟩, 0x00002000#32) := by decide

/-- V-SPLS-B-ldh. -/
theorem test_v_spls_b_ldh : lateBase (world 0xF29B0BFE#32 [(6#5, 0x00002002#32)]) =
    some (some ⟨4, 0xFFFF8182#32⟩, 0x00002002#32) := by decide

/-- V-SPLS-B-ldhu. -/
theorem test_v_spls_b_ldhu : lateBase (world 0xF29B1BFE#32 [(6#5, 0x00002002#32)]) =
    some (some ⟨4, 0x00008182#32⟩, 0x00002002#32) := by decide

/-- V-SPLS-B-ldb. -/
theorem test_v_spls_b_ldb : lateBase (world 0xF29B4BFE#32 [(6#5, 0x00002002#32)]) =
    some (some ⟨4, 0xFFFFFF81#32⟩, 0x00002002#32) := by decide

/-- V-SPLS-B-ldbu. -/
theorem test_v_spls_b_ldbu : lateBase (world 0xF29B5BFE#32 [(6#5, 0x00002002#32)]) =
    some (some ⟨4, 0x00000081#32⟩, 0x00002002#32) := by decide

/-- V-SPLS-L-ldh. -/
theorem test_v_spls_l_ldh : lateBase (worldLittle 0xF29B0BFE#32 [(6#5, 0x00002002#32)]) =
    some (some ⟨4, 0xFFFFF384#32⟩, 0x00002002#32) := by decide

/-- V-SPLS-L-ldhu. -/
theorem test_v_spls_l_ldhu : lateBase (worldLittle 0xF29B1BFE#32 [(6#5, 0x00002002#32)]) =
    some (some ⟨4, 0x0000F384#32⟩, 0x00002002#32) := by decide

/-- V-SPLS-1. -/
theorem test_v_spls_1 : lateBase (world 0xF29B5E00#32 [(6#5, 0x00002203#32)]) =
    some (some ⟨4, 0x00000084#32⟩, 0x00002003#32) := by decide

/-- V-RRM-B-st. -/
theorem test_v_rrm_b_st : bytesAfter (world0 0xB29A3802#32 [(5#5, 0xA1B2C3D4#32), (6#5, 0x00002000#32), (7#5, 0x00000000#32)]) 0x2000#32 =
    some [0xA1#8, 0xB2#8, 0xC3#8, 0xD4#8] := by decide

/-- V-RRM-B-sth. -/
theorem test_v_rrm_b_sth : bytesAfter (world0 0xB29A3800#32 [(5#5, 0xA1B2C3D4#32), (6#5, 0x00002000#32), (7#5, 0x00000002#32)]) 0x2000#32 =
    some [0x00#8, 0x00#8, 0xC3#8, 0xD4#8] := by decide

/-- V-RRM-B-stb. -/
theorem test_v_rrm_b_stb : bytesAfter (world0 0xB29A3804#32 [(5#5, 0xA1B2C3D4#32), (6#5, 0x00002000#32), (7#5, 0x00000001#32)]) 0x2000#32 =
    some [0x00#8, 0xD4#8, 0x00#8, 0x00#8] := by decide

/-- V-RRM-L-st. -/
theorem test_v_rrm_l_st : bytesAfter (worldLittle0 0xB29A3802#32 [(5#5, 0xA1B2C3D4#32), (6#5, 0x00002000#32), (7#5, 0x00000000#32)]) 0x2000#32 =
    some [0xD4#8, 0xC3#8, 0xB2#8, 0xA1#8] := by decide

/-- V-RRM-L-sth. -/
theorem test_v_rrm_l_sth : bytesAfter (worldLittle0 0xB29A3800#32 [(5#5, 0xA1B2C3D4#32), (6#5, 0x00002000#32), (7#5, 0x00000002#32)]) 0x2000#32 =
    some [0x00#8, 0x00#8, 0xD4#8, 0xC3#8] := by decide

/-- V-SPLS-B-sth. -/
theorem test_v_spls_b_sth : bytesAfter (world 0xF29B2BFE#32 [(5#5, 0xAABBCCDD#32), (6#5, 0x00002002#32)]) 0x2000#32 =
    some [0xCC#8, 0xDD#8, 0xF3#8, 0x84#8] := by decide

/-- V-SPLS-B-stb. -/
theorem test_v_spls_b_stb : bytesAfter (world 0xF29B6BFE#32 [(5#5, 0xAABBCCDD#32), (6#5, 0x00002002#32)]) 0x2000#32 =
    some [0xDD#8, 0x82#8, 0xF3#8, 0x84#8] := by decide

/-- V-SPLS-L-sth. -/
theorem test_v_spls_l_sth : bytesAfter (worldLittle 0xF29B2BFE#32 [(5#5, 0xAABBCCDD#32), (6#5, 0x00002002#32)]) 0x2000#32 =
    some [0xDD#8, 0xCC#8, 0x82#8, 0x81#8] := by decide

/-- V-SPLS-L-stb. -/
theorem test_v_spls_l_stb : bytesAfter (worldLittle 0xF29B6BFE#32 [(5#5, 0xAABBCCDD#32), (6#5, 0x00002002#32)]) 0x2000#32 =
    some [0xDD#8, 0xF3#8, 0x82#8, 0x81#8] := by decide

/-- V-RM-9. -/
theorem test_v_rm_9 : bytesAfter (world 0x929BFFFC#32 [(6#5, 0x00002008#32), (5#5, 0xDEADBEEF#32)]) 0x2004#32 =
    some [0xDE#8, 0xAD#8, 0xBE#8, 0xEF#8] := by decide

/-- V-RM-11. -/
theorem test_v_rm_11 : bytesAfter (world 0x931B0004#32 [(6#5, 0x00002000#32)]) 0x2004#32 =
    some [0x00#8, 0x00#8, 0x20#8, 0x00#8] := by decide

/-- V-RRM-8. -/
theorem test_v_rrm_8 : bytesAfter (world 0xB29A3FC0#32 [(5#5, 0xABCDEF01#32), (6#5, 0x00020080#32), (7#5, 0xFFFFFFFC#32)]) 0x2008#32 =
    some [0xAB#8, 0xCD#8, 0xEF#8, 0x01#8] := by decide

/-- The truth table of 95_test_vectors.md section 2.8, a row as sixteen bits, the column t first. -/
theorem test_conditions : conditionRows [
    (⟨false, false, false, false⟩, 0x9AAA#16),
    (⟨false, false, false, true⟩, 0xA6AA#16),
    (⟨false, false, true, false⟩, 0x9A65#16),
    (⟨false, false, true, true⟩, 0xA665#16),
    (⟨false, true, false, false⟩, 0x9A95#16),
    (⟨false, true, false, true⟩, 0xA695#16),
    (⟨false, true, true, false⟩, 0x9A5A#16),
    (⟨false, true, true, true⟩, 0xA65A#16),
    (⟨true, false, false, false⟩, 0x99A9#16),
    (⟨true, false, false, true⟩, 0x95A9#16),
    (⟨true, false, true, false⟩, 0x9965#16),
    (⟨true, false, true, true⟩, 0x9565#16),
    (⟨true, true, false, false⟩, 0x9995#16),
    (⟨true, true, false, true⟩, 0x9595#16),
    (⟨true, true, true, false⟩, 0x9959#16),
    (⟨true, true, true, true⟩, 0x9559#16)] = true := by decide

/-- V-RI-27: C is the draw of the state's counter, which advances. -/
theorem test_v_ri_27 : (ran (world 0x729A0000#32 [(6#5, 0x80000000#32)])).map (fun t => (t.regs.get 4, t.draws)) =
    some (0x80000000#32, 1) := by decide

/-- V-RM-2. -/
theorem test_v_rm_2 : lateBase (world 0x82990004#32 [(6#5, 0x2000#32)]) =
    some (some ⟨4, 0x8182F384#32⟩, 0x2004#32) := by decide

/-- V-RM-14: the value lands on the register that the instruction writes. -/
theorem test_v_rm_14 : stopOf { world 0x02940001#32 [(5#5, 1#32)] with lp := some ⟨4, 0x11111111#32⟩ } =
    some (.writeCollision 4) := by decide

/-- V-RM-6, its second step: the shadow reads the old R5 and the value lands at its end. -/
theorem test_v_rm_6 : (ran { world 0xC3942800#32 [(5#5, 1#32)] with lp := some ⟨4, 0x11111111#32⟩ }).map
    (fun t => (t.regs.get 4, t.regs.get 6)) = some (0x11111111#32, 2#32) := by decide

/-- V-RRM-5: the address operation reads C and changes no flag. -/
theorem test_v_rrm_5 : (ran (world 0xA29A3902#32 [(6#5, 0x1FFC#32), (7#5, 3#32)] ⟨false, false, false, true⟩)).map
    (fun t => (t.lp, t.flags)) = some (some ⟨4, 0x8182F384#32⟩, ⟨false, false, false, true⟩) := by decide

/-- V-RRM-10: the amount 32 in mode base, where the operation is not performed. -/
theorem test_v_rrm_10 : lateBase (world 0xA2983F80#32 [(6#5, 0x2000#32), (7#5, 0x20#32)]) =
    some (some ⟨4, 0x8182F384#32⟩, 0x2000#32) := by decide

/-- V-RRM-7. -/
theorem test_v_rrm_7 : lateBase (world 0xA29A3F80#32 [(6#5, 0x800#32), (7#5, 2#32)]) =
    some (some ⟨4, 0x8182F384#32⟩, 0x800#32) := by decide

/-- V-BR-1, V-BR-2, V-BR-9: taken, never taken, taken in a shadow. -/
theorem test_v_br_1 : pcAfter (world 0xE0001010#32 []) = some (0x1004#32, 0x1010#32, true) := by decide
theorem test_v_br_2 : pcAfter (world 0xE0001011#32 []) = some (0x1004#32, 0x1008#32, false) := by decide
theorem test_v_br_9 : stopOf { world 0xE0001014#32 [] with js := true } =
    some (.jumpInShadow 0x1000#32) := by decide

/-- V-BR-15-4: a relative branch with `PC_READ_OFFSET` 4; V-BR-16 with that offset: backwards. -/
theorem test_v_br_15_4 : pcAfter (world 0xE000000A#32 []) = some (0x1004#32, 0x100C#32, true) := by decide
theorem test_v_br_16 : pcAfter (world 0xE1FFFFFA#32 []) = some (0x1004#32, 0xFFC#32, true) := by decide

/-- V-SBR-1, V-SBR-7, V-SBR-8. -/
theorem test_v_sbr_1 : pcAfter (world 0xF02BC058#32 [(10#5, 0x2000#32), (11#5, 0x10#32)]) =
    some (0x1004#32, 0x2010#32, true) := by decide
theorem test_v_sbr_7 : stopOf (world 0xF02BC058#32 [(10#5, 0x2000#32), (11#5, 0x11#32)]) =
    some (.misalignedTarget 0x2011#32) := by decide
theorem test_v_sbr_8 : pcAfter (world 0xF02BC059#32 [(10#5, 0x2000#32), (11#5, 0x11#32)]) =
    some (0x1004#32, 0x1008#32, false) := by decide

/-- V-SLS-2 and V-SLS-6 at 0x2000; V-SLI-2. -/
theorem test_v_sls_2 : lateBase (world 0xF2802001#32 []) = some (some ⟨4, 0x8182F384#32⟩, 0#32) := by decide
theorem test_v_sls_6 : bytesAfter (world 0xF2812002#32 [(5#5, 0xAABBCCDD#32)]) 0x2000#32 =
    some [0xAA#8, 0xBB#8, 0xCC#8, 0xDD#8] := by decide
theorem test_v_sli_2 : lateBase (world 0xF2FEFFFF#32 []) = some (some ⟨4, 0x001FFFFF#32⟩, 0#32) := by decide

/-- V-PUNT-1 with `CTX_SWITCH` free: a next state in the other context. -/
theorem test_v_punt_1 : (ran (world 0xF003FF47#32 [])).map (fun t => (t.ctx, t.lp)) = some (true, none) := by decide

/-- V-RI-28, V-RR-13, V-RRR-13, V-RRM-9: shift amounts out of range. -/
theorem test_shift_range :
    stopOf (world 0x72980020#32 [(6#5, 1#32)]) = some (.shiftRange 32) ∧
    stopOf (world 0xC2983FC0#32 [(6#5, 1#32), (7#5, 0xFFFFFFE0#32)]) = some (.shiftRange (-32)) ∧
    stopOf (world 0xD2983847#32 [(6#5, 1#32), (7#5, 1#32), (8#5, 0x21#32)]) = some (.shiftRange 33) ∧
    stopOf (world 0xA29A3F80#32 [(6#5, 0x2000#32), (7#5, 0x20#32)]) = some (.shiftRange 32) := by decide

/-- V-RM-17, V-RM-20, V-RM-22: stops of a load. -/
theorem test_rm_stops :
    stopOf (world 0x829A0002#32 [(6#5, 0x2000#32)]) = some (.misaligned 0x2002#32 4) ∧
    stopOf (world 0x82890004#32 []) = some (.restrictedBase 2#5) ∧
    stopOf (world 0x829A0000#32 [(6#5, 0x9000#32)]) = some (.accessInvalid 0x9000#32 4) := by decide

/-- V-ORD-1 to V-ORD-6: which reason comes first. -/
theorem test_order :
    stopOf (world 0xC2993F00#32 []) = some (.reservedEncoding 0xC2993F00#32) ∧
    stopOf (world 0xD11838F8#32 []) = some (.restrictedRd .rrr 2#5) ∧
    stopOf (world 0x72FC0020#32 []) = some (.isrAccess .rs1) ∧
    stopOf (world 0x829A0002#32 [(6#5, 0x9000#32)]) = some (.misaligned 0x9002#32 4) ∧
    stopOf (world 0x8F890004#32 []) = some (.restrictedRd .rm 31#5) ∧
    stopOf { world 0xF02BC058#32 [(10#5, 0x2000#32), (11#5, 0x11#32)] with js := true } =
      some (.misalignedTarget 0x2011#32) := by decide

/-- V-PUNT-5, V-PUNT-6: in the shadow of a load, of a jump. -/
theorem test_punt_stops :
    stopOf { world 0xF003FF47#32 [] with lp := some ⟨4, 0#32⟩ } = some .puntInShadow ∧
    stopOf { world 0xF003FF47#32 [] with js := true } = some .puntInShadow := by decide

/-- V-MEM-1, V-MEM-2, V-RRM-11, V-RRM-13: outside what exists, a word stored to, words that are no instruction. -/
theorem test_fetch_stops :
    stopOf { world 0#32 [] with cia := 0x3000#32 } = some (.fetchInvalid 0x3000#32) ∧
    stopOf { world 0#32 [] with stored := [0x1003] } = some (.fetchModified 0x1000#32) ∧
    stopOf (world 0xA29A3806#32 []) = some (.reservedEncoding 0xA29A3806#32) ∧
    stopOf (world 0xA29A3F88#32 []) = some (.reservedBits 0xA29A3F88#32) := by decide

/-! ## Registers away from the spec's defaults (log entry 10) -/

/-- R0 hardwired to 0, and the flags Z, N, V, C as bits 0 to 3 of R30. -/
def special (s : State) : State :=
  { s with params := { s.params with specialRegs := [(0#5, .hardwired 0#32)], flagsAlias := some ⟨30#5, 0, 1, 2, 3⟩ } }

/-- R7 has a side effect. -/
def sideEffect7 : State :=
  { world 0#32 [] with params := { (world 0#32 []).params with specialRegs := [(7#5, .sideEffect)] } }

/-- ri.add R0, R0, lo(0x1234), and rr.add R5, R30, R0 with Z and C set. -/
theorem test_special_reads :
    (ran (special (world 0x00001234#32 [(0#5, 9#32)]))).map (readReg · 0) = some 0#32 ∧
    (ran (special (world 0xC2F83800#32 [(7#5, 0#32), (30#5, 0x50#32)] ⟨true, false, false, true⟩))).map (readReg · 4) =
      some 0x59#32 := by decide

/-- ri.add R30, R0, lo(6) writes N and V; with F = 1 the two writes of the flags meet. -/
theorem test_special_writes :
    (ran (special (world 0x0F000006#32 []))).map State.flags = some ⟨false, true, true, false⟩ ∧
    stopOf (special (world 0x0F020006#32 [])) = some (.writeCollision 29) := by decide

/-- 60_exceptions.md R394, (5) before (6): ri.add.f R2, R0, lo(1) while a value lands on the flags' register. -/
theorem test_collision_before_target :
    stopOf { special (world 0x01020001#32 []) with lp := some ⟨29, 0#32⟩ } = some (.writeCollision 29) ∧
    stopOf (special (world 0x01020001#32 [])) = some (.misalignedTarget 1#32) := by decide

/-- 45_rrm.md R265: RRM in mode base does not read Rs2, in the other modes it does. -/
theorem test_rrm_reads :
    touches sideEffect7 (accessed (.rrmLdAdd 5#5 6#5 .base 7#5 0#5 false)) = false ∧
    touches sideEffect7 (accessed (.rrmStAdd 5#5 6#5 .base 7#5 0#5 false)) = false ∧
    touches sideEffect7 (accessed (.rrmLdAdd 5#5 6#5 .off 7#5 0#5 false)) = true := by decide

/-! ## The state after reset and the host's two functions -/

theorem test_reset_inv : Memory.wf State.reset.mem = true ∧ storedWf State.reset.stored = true := by decide

theorem test_decode_table_word : decodeTableWord 32 0xE6001011 = some (.brEq 0x404#23) := by decide

theorem test_with_fetch_word : fetchDecode (State.reset.withFetchWord 32 0x029B1234) =
    .ok (.riAdd 5#5 6#5 true true 0x1234#16) := by decide

/-! ## Witnesses: for every statement with hypotheses, a state and operands that meet all of them, for each clause -/

theorem free_of_none {s : State} {g : Gpr} (h : s.lp = none) : freeToWrite g s := by
  intro l hl
  rw [h] at hl
  cases hl

theorem baseFree_of_none {m : Mode} {rs1 : Reg} {s : State} (h : s.lp = none) (h2 : rs1 ≠ 2#5) :
    baseFree m rs1 s := fun _ => ⟨h2, fun _ _ => free_of_none h⟩

theorem freeFlags_of_default {f : Bool} {d : Option Gpr} {s : State} (h : s.params.flagsAlias = none) :
    freeFlags f d s := by
  have hf : ∀ g, flagsIn s.params g = none := fun g => by simp [flagsIn, h]
  exact fun _ => ⟨fun g _ => hf g, fun l _ => hf l.reg⟩

theorem quiet_of_default {i : Instr} {s : State} (h : s.params.specialRegs = []) : quiet i s := touches_default h _

/-- The state after one instruction, if it has one. -/
def after (i : Instr) (s : State) : Option State :=
  match exec i s with
  | .next t => some t
  | .fault _ => none
  | .refused _ => none

theorem next_of_after {i : Instr} {s : State} (h : (after i s).isSome = true) : ∃ t, exec i s = .next t := by
  unfold after at h
  cases hx : exec i s with
  | next t => exact ⟨t, rfl⟩
  | fault f => rw [hx] at h; cases h
  | refused r => rw [hx] at h; cases h

/-- R5 holds data, R6 an address, R7 and R8 small numbers; no late value, no jump pending. -/
def w0 : State := world 0#32 [(5#5, 0xDEADBEEF#32), (6#5, 0x2000#32), (7#5, 4#32), (8#5, 0xFFFFFFFF#32)]

/-- As `w0`, with a value about to land on R5. -/
def wLate : State := { w0 with lp := some ⟨4, 0x11111111#32⟩ }

/-- As `w0`, in the shadow of a jump. -/
def wShadow : State := { w0 with js := true }

theorem witness_DecodeEncode : ∀ c rs1 rs3, Instr.punt.form ≠ .sbr c rs1 rs3 := by
  intro c rs1 rs3 h
  cases h

theorem witness_DecodeEncode_sbr : (Instr.sbrLe 31#5 0#5).form = .sbr .le 31#5 0#5 := rfl

theorem witness_EncodeDecode : decode false 0xF29B7800#32 = .ok (.splsStb 5#5 6#5 .off true 0#10) := by decide

theorem witness_ReservedEncodings :
    decode true 0xC2983F78#32 = .error (.reservedEncoding 0xC2983F78#32) ∧
    decode true 0xA29A3F00#32 = .error (.reservedEncoding 0xA29A3F00#32) ∧
    decode true 0xB29A3807#32 = .error (.reservedEncoding 0xB29A3807#32) ∧
    decode true 0xF003FF07#32 = .error (.reservedEncoding 0xF003FF07#32) ∧
    decode true 0xF02BC05A#32 = .error (.reservedEncoding 0xF02BC05A#32) ∧
    decode false 0xF02BC058#32 = .error (.reservedEncoding 0xF02BC058#32) := by decide

theorem witness_ReservedBitsRefused :
    decode true 0xC2993800#32 = .error (.reservedBits 0xC2993800#32) ∧
    decode true 0xC2983804#32 = .error (.reservedBits 0xC2983804#32) ∧
    decode true 0xC2983FA0#32 = .error (.reservedBits 0xC2983FA0#32) ∧
    decode true 0xA29A3F88#32 = .error (.reservedBits 0xA29A3F88#32) ∧
    decode true 0xF803FF47#32 = .error (.reservedBits 0xF803FF47#32) ∧
    decode true 0xF003FFC7#32 = .error (.reservedBits 0xF003FFC7#32) ∧
    decode true 0xF12BC058#32 = .error (.reservedBits 0xF12BC058#32) := by decide

theorem witness_StepRunsDecoded : memValid w0.params w0.cia 4 = true ∧ anyStored w0.stored w0.cia 4 = false ∧
    decodeBytes w0.params.endian w0.params.hasSbr (Memory.readBytes w0.mem w0.cia 4) =
      .ok (.riAdd 0#5 0#5 false false 0#16) := by decide

theorem witness_FetchStops :
    memValid w0.params 0x0FFD#32 4 = false ∧
    (memValid w0.params 0x2FFC#32 4 = true ∧ anyStored [0x2FFF] 0x2FFC#32 4 = true) ∧
    (memValid w0.params w0.cia 4 = true ∧ anyStored w0.stored w0.cia 4 = false ∧
      decodeBytes .big true (Memory.readBytes (world 0xC2983801#32 []).mem w0.cia 4) =
        .error (.reservedBits 0xC2983801#32)) := by decide

theorem witness_OverflowIsSigned :
    alu .add 0x7FFFFFFF#32 1#32 false = some ⟨0x80000000#32, .known false, true⟩ ∧
    alu .addc 0x7FFFFFFF#32 0#32 true = some ⟨0x80000000#32, .known false, true⟩ ∧
    alu .sub 0x80000000#32 1#32 false = some ⟨0x7FFFFFFF#32, .known true, true⟩ ∧
    alu .subb 0x80000000#32 0#32 false = some ⟨0x7FFFFFFF#32, .known true, true⟩ := by decide

theorem witness_LogicRule : (0 : Nat) < 32 ∧ (31 : Nat) < 32 := by decide

theorem witness_ShiftRule : (0#32).toInt = (0 : Nat) ∧ (31#32).toInt = (31 : Nat) ∧
    (0xFFFFFFFF#32).toInt = -(1 : Nat) ∧ (0xFFFFFFE1#32).toInt = -(31 : Nat) ∧
    (0xFFFFFFE0#32).toInt < -31 ∧ 31 < (32#32).toInt := by decide

theorem witness_FlagUpdate :
    (adder 0#32 0#32 false).out.carry = .known false ∧
    (shift 1#32 0#32 true).map AluOut.carry = some .drawn ∧
    (logicOut 0#32).carry = .logic ∧
    w0.params.rrrLogicC = .clear ∧ (worldKeep 0#32 []).params.rrrLogicC = .keep := by decide

theorem witness_ConditionsCompare : alu .sub 0x80000000#32 0x7FFFFFFF#32 true = some ⟨1#32, .known true, true⟩ := by
  decide

theorem witness_RegisterNumbers : behaviour w0.params 0 = none ∧ flagsIn w0.params 0 = none ∧ gpr? 0#5 = some 0 ∧ gpr? 1#5 = some 1 ∧ gpr? 3#5 = some 2 ∧ gpr? 30#5 = some 29 := by
  decide

theorem witness_BranchTargets : aligned4 w0.cia = true ∧ aligned4 0xFFFFFFFC#32 = true := by decide

theorem witness_ByteOrder : w0.params.endian = .big ∧ (worldLittle 0#32 []).params.endian = .little ∧
    Memory.readByte w0.mem (byteAddr 0x2000#32 3) = 0x84#8 ∧ byteAddr 0xFFFFFFFE#32 2 = 0 := by decide

theorem witness_RiConstants : BaseOp.or ≠ .and := by decide

theorem witness_RiResult :
    (Instr.riAdd 5#5 8#5 true false 0xFFFF#16).form = .ri (.plain .add false) 5#5 8#5 true 0xFFFF#16 ∧
    gpr? 5#5 = some 4 ∧ (8#5 : Reg) ≠ 31#5 ∧
    alu (opHAlu (.plain .add false)) (regValue 8#5 w0) (riConst (.plain .add false) 0xFFFF#16) w0.flags.c =
      some ⟨0x0000FFFE#32, .known true, false⟩ ∧ freeToWrite 4 w0 ∧ freeFlags true (some 4) w0 :=
  ⟨rfl, by decide, by decide, by decide, free_of_none rfl, freeFlags_of_default rfl⟩

/-- The shift by 0 with F = 1: the flags take the free value. -/
theorem witness_RiResult_draw :
    (Instr.riSh 5#5 8#5 true 0#16).form = .ri .sh 5#5 8#5 true 0#16 ∧
    alu (opHAlu .sh) (regValue 8#5 w0) (riConst .sh 0#16) w0.flags.c = some ⟨0xFFFFFFFF#32, .drawn, false⟩ ∧
    freeToWrite 4 w0 ∧ freeFlags true (some 4) w0 :=
  ⟨rfl, by decide, free_of_none rfl, freeFlags_of_default rfl⟩

theorem witness_RrResult :
    (Instr.rrSubb 5#5 6#5 true 2#5 9#5).form = .rr (.plain .subb 9#5) 5#5 6#5 true 2#5 ∧
    gpr? 5#5 = some 4 ∧ (6#5 : Reg) ≠ 31#5 ∧ (2#5 : Reg) ≠ 31#5 ∧
    alu (opJAlu (.plain .subb 9#5)) (regValue 6#5 w0) (regValue 2#5 w0) w0.flags.c =
      some ⟨0x00000FFB#32, .known true, false⟩ ∧ freeToWrite 4 w0 ∧ freeFlags true (some 4) w0 :=
  ⟨rfl, by decide, by decide, by decide, by decide, free_of_none rfl, freeFlags_of_default rfl⟩

theorem witness_RiRrJump_ri :
    (Instr.riAdd 2#5 2#5 false false 8#16).form = .ri (.plain .add false) 2#5 2#5 false 8#16 ∧
    alu (opHAlu (.plain .add false)) (regValue 2#5 w0) (riConst (.plain .add false) 8#16) w0.flags.c =
      some ⟨0x100C#32, .known false, false⟩ ∧ aligned4 0x100C#32 = true ∧ w0.js = false ∧ freeFlags false none w0 :=
  ⟨rfl, by decide, by decide, rfl, freeFlags_of_default rfl⟩

theorem witness_RiRrJump_rr :
    (Instr.rrOr 2#5 6#5 true 7#5 0#5).form = .rr (.plain .or 0#5) 2#5 6#5 true 7#5 ∧
    alu (opJAlu (.plain .or 0#5)) (regValue 6#5 w0) (regValue 7#5 w0) w0.flags.c =
      some ⟨0x2004#32, .logic, false⟩ ∧ aligned4 0x2004#32 = true ∧ w0.js = false ∧ freeFlags true none w0 :=
  ⟨rfl, by decide, by decide, rfl, freeFlags_of_default rfl⟩

theorem witness_RrrResult :
    (Instr.rrrShaSub 5#5 8#5 true 30#5 7#5).form = .rrr .sha (.base .sub) 5#5 8#5 true 30#5 7#5 ∧
    gpr? 5#5 = some 4 ∧ (8#5 : Reg) ≠ 31#5 ∧ (30#5 : Reg) ≠ 31#5 ∧ (7#5 : Reg) ≠ 31#5 ∧
    alu (op1Alu (.base .sub)) (regValue 30#5 w0) (regValue 7#5 w0) w0.flags.c =
      some ⟨0xFFFFFFFC#32, .known false, false⟩ ∧
    alu (opHAlu .sha) (regValue 8#5 w0) 0xFFFFFFFC#32 w0.flags.c = some ⟨0xFFFFFFFF#32, .known false, false⟩ ∧
    freeToWrite 4 w0 ∧ freeFlags true (some 4) w0 :=
  ⟨rfl, by decide, by decide, by decide, by decide, by decide, by decide, free_of_none rfl, freeFlags_of_default rfl⟩

theorem witness_RrrFirstOperation :
    (Instr.rrrOrAdd 5#5 0#5 false true 6#5 7#5).form = .rrr (.plain .or true) (.base .add) 5#5 0#5 false 6#5 7#5 ∧
    gpr? 5#5 = some 4 ∧ regValue 0#5 w0 = 0#32 ∧ freeToWrite 4 w0 ∧
    fld (encode (.rrrOrAdd 5#5 0#5 false true 6#5 7#5)) 0 3 = 0#3 ∧
    fld (encode (.rrrOrSub 5#5 0#5 false true 6#5 7#5)) 0 3 = 2#3 ∧
    fld (encode (.rrrOrAnd 5#5 0#5 false true 6#5 7#5)) 0 3 = 4#3 ∧
    fld (encode (.rrrOrOr 5#5 0#5 false true 6#5 7#5)) 0 3 = 5#3 ∧
    fld (encode (.rrrOrXor 5#5 0#5 false true 6#5 7#5)) 0 3 = 6#3 :=
  ⟨rfl, by decide, by decide, free_of_none rfl, by decide, by decide, by decide, by decide, by decide⟩

theorem witness_RmLoad :
    (Instr.rmLd 5#5 6#5 .pre 0x7FFC#16).form = .rm false 5#5 6#5 .pre 0x7FFC#16 ∧
    (Instr.rmLd 5#5 6#5 .post 0xFFFC#16).form = .rm false 5#5 6#5 .post 0xFFFC#16 ∧
    gpr? 5#5 = some 4 ∧ (6#5 : Reg) ≠ 31#5 ∧
    modeEa .post (regValue 6#5 w0) (regValue 6#5 w0 + (0xFFFC#16).signExtend 32) = 0x2000#32 ∧
    (0x2000#32).toNat % 4 = 0 ∧ memValid w0.params 0x2000#32 4 = true ∧ baseFree .post 6#5 w0 :=
  ⟨rfl, rfl, by decide, by decide, by decide, by decide, by decide, baseFree_of_none rfl (by decide)⟩

theorem witness_RmStore :
    (Instr.rmSt 6#5 6#5 .pre 0xFFC#16).form = .rm true 6#5 6#5 .pre 0xFFC#16 ∧
    gpr? 6#5 = some 5 ∧ (6#5 : Reg) ≠ 31#5 ∧
    modeEa .pre (regValue 6#5 w0) (regValue 6#5 w0 + (0xFFC#16).signExtend 32) = 0x2FFC#32 ∧
    (0x2FFC#32).toNat % 4 = 0 ∧ memValid w0.params 0x2FFC#32 4 = true ∧ baseFree .pre 6#5 w0 ∧
    Memory.wf w0.mem = true :=
  ⟨rfl, by decide, by decide, by decide, by decide, by decide, baseFree_of_none rfl (by decide), by decide⟩

theorem witness_RrmLoad :
    (Instr.rrmLdhSub 5#5 6#5 .off 7#5 0#5).form = .rrm (.plain .ldh .sub 0#5) 5#5 6#5 .off 7#5 ∧
    (RrmForm.plain .ldh .sub 0#5).s = false ∧ gpr? 5#5 = some 4 ∧ (6#5 : Reg) ≠ 31#5 ∧ (7#5 : Reg) ≠ 31#5 ∧
    alu (rrmAlu (.plain .ldh .sub 0#5)) (regValue 6#5 w0) (regValue 7#5 w0) w0.flags.c =
      some ⟨0x1FFC#32, .known true, false⟩ ∧
    modeEa .off (regValue 6#5 w0) 0x1FFC#32 = 0x1FFC#32 ∧
    (0x1FFC#32).toNat % (rrmSize (.plain .ldh .sub 0#5)).bytes = 0 ∧
    memValid w0.params 0x1FFC#32 (rrmSize (.plain .ldh .sub 0#5)).bytes = true ∧ baseFree .off 6#5 w0 :=
  ⟨rfl, rfl, by decide, by decide, by decide, by decide, by decide, by decide, by decide,
    baseFree_of_none rfl (by decide)⟩

/-- Mode base: the operation is not performed, and an amount out of range is of no account. -/
theorem witness_RrmLoad_base :
    (Instr.rrmLdSh 5#5 6#5 .base 8#5 7#3).form = .rrm (.shifted false false 7#3) 5#5 6#5 .base 8#5 ∧
    ¬ Mode.base ≠ Mode.base ∧ modeEa .base (regValue 6#5 w0) 0#32 = 0x2000#32 ∧
    memValid w0.params 0x2000#32 (rrmSize (.shifted false false 7#3)).bytes = true ∧ baseFree .base 6#5 w0 :=
  ⟨rfl, by decide, by decide, by decide, baseFree_of_none rfl (by decide)⟩

theorem witness_RrmStore :
    (Instr.rrmStbAdd 5#5 6#5 .post 7#5 0#5 true).form = .rrm (.plain (.stb true) .add 0#5) 5#5 6#5 .post 7#5 ∧
    (RrmForm.plain (.stb true) .add 0#5).s = true ∧ gpr? 5#5 = some 4 ∧ (6#5 : Reg) ≠ 31#5 ∧ (7#5 : Reg) ≠ 31#5 ∧
    alu (rrmAlu (.plain (.stb true) .add 0#5)) (regValue 6#5 w0) (regValue 7#5 w0) w0.flags.c =
      some ⟨0x2004#32, .known false, false⟩ ∧
    modeEa .post (regValue 6#5 w0) 0x2004#32 = 0x2000#32 ∧
    (0x2000#32).toNat % (rrmSize (.plain (.stb true) .add 0#5)).bytes = 0 ∧
    memValid w0.params 0x2000#32 (rrmSize (.plain (.stb true) .add 0#5)).bytes = true ∧ baseFree .post 6#5 w0 ∧
    Memory.wf w0.mem = true :=
  ⟨rfl, rfl, by decide, by decide, by decide, by decide, by decide, by decide, by decide,
    baseFree_of_none rfl (by decide), by decide⟩

theorem witness_SlsAccess :
    (Instr.slsLd 5#5 0x2003#21).form = .sls false 5#5 0x2003#21 ∧
    (Instr.slsSt 5#5 0x2FFF#21).form = .sls true 5#5 0x2FFF#21 ∧ gpr? 5#5 = some 4 ∧
    memValid w0.params (slsAddr 0x2003#21) 4 = true ∧ memValid w0.params (slsAddr 0x2FFF#21) 4 = true ∧
    memValid State.reset.params (slsAddr 0x1FFFFF#21) 4 = true ∧ Memory.wf w0.mem = true := by decide

theorem witness_SliResult : gpr? 30#5 = some 29 := by decide

theorem witness_SplsLoad :
    (Instr.splsLdbu 5#5 6#5 .pre 0x1FF#10).form = .spls .ldbu 5#5 6#5 .pre 0x1FF#10 ∧ SplsAcc.ldbu.s = false ∧
    gpr? 5#5 = some 4 ∧ (6#5 : Reg) ≠ 31#5 ∧
    modeEa .pre (regValue 6#5 w0) (regValue 6#5 w0 + (0x1FF#10).signExtend 32) = 0x21FF#32 ∧
    (0x21FF#32).toNat % (splsSize .ldbu).bytes = 0 ∧ memValid w0.params 0x21FF#32 (splsSize .ldbu).bytes = true ∧
    baseFree .pre 6#5 w0 :=
  ⟨rfl, rfl, by decide, by decide, by decide, by decide, by decide, baseFree_of_none rfl (by decide)⟩

theorem witness_SplsStore :
    (Instr.splsSth 5#5 6#5 .off true 0x200#10).form = .spls (.sth true) 5#5 6#5 .off 0x200#10 ∧
    (SplsAcc.sth true).s = true ∧ gpr? 5#5 = some 4 ∧ (6#5 : Reg) ≠ 31#5 ∧
    modeEa .off (regValue 6#5 w0) (regValue 6#5 w0 + (0x200#10).signExtend 32) = 0x1E00#32 ∧
    (0x1E00#32).toNat % (splsSize (.sth true)).bytes = 0 ∧
    memValid w0.params 0x1E00#32 (splsSize (.sth true)).bytes = true ∧ baseFree .off 6#5 w0 ∧
    Memory.wf w0.mem = true :=
  ⟨rfl, rfl, by decide, by decide, by decide, by decide, by decide, baseFree_of_none rfl (by decide), by decide⟩

theorem witness_BranchResult :
    (Instr.brHi 0x7FFFFF#23).form = .br false .hi 0x7FFFFF#23 ∧
    (Instr.brrCc 0x400000#23).form = .br true .cc 0x400000#23 ∧ Machine.cond .hi w0.flags = false ∧
    Machine.cond .cc w0.flags = true ∧ aligned4 w0.cia = true ∧ w0.js = false ∧ wShadow.js = true := by decide

theorem witness_BranchNever : quiet (.brF 0x7FFFFF#23) wLate := quiet_of_default rfl

theorem witness_SbrResult :
    (Instr.sbrNe 6#5 7#5).form = .sbr .ne 6#5 7#5 ∧ (Instr.sbrEq 6#5 8#5).form = .sbr .eq 6#5 8#5 ∧
    (6#5 : Reg) ≠ 31#5 ∧ (7#5 : Reg) ≠ 31#5 ∧ Machine.cond .eq w0.flags = false ∧
    Machine.cond .ne w0.flags = true ∧ aligned4 (regValue 6#5 w0 + regValue 7#5 w0) = true ∧ w0.js = false ∧
    aligned4 (regValue 6#5 w0 + regValue 8#5 w0) = false ∧ wShadow.js = true := by decide

theorem witness_PuntResult : w0.lp = none ∧ w0.js = false ∧ wLate.lp.isSome = true ∧ wShadow.js = true := by decide

theorem witness_AllZeroWord : freeToWrite 0 wLate ∧ ¬ freeToWrite 4 wLate := by
  refine ⟨?_, fun h => h ⟨4, 0x11111111#32⟩ rfl rfl⟩
  intro l hl
  cases hl
  decide

theorem witness_AllZeroWord_refused : ¬ freeToWrite 0 { w0 with lp := some ⟨0, 7#32⟩ } :=
  fun h => h ⟨0, 7#32⟩ rfl rfl

theorem witness_StaticViolationsRefused :
    (Instr.rrrSubAnd 31#5 31#5 true false 31#5 31#5).violation = some (.restrictedRd .rrr 31#5) ∧
    (Instr.riSha 5#5 6#5 false 0x8000#16).violation = some (.shiftRange (-32768)) := by decide

theorem witness_RegisterShiftRange_rr :
    (Instr.rrSh 5#5 6#5 false 6#5).violation = none ∧
    alu (opJAlu .sh) (regValue 6#5 w0) (regValue 6#5 w0) w0.flags.c = none := by decide

theorem witness_RegisterShiftRange_op1 :
    (Instr.rrrAddSha 5#5 6#5 false true 7#5 6#5).violation = none ∧
    alu (op1Alu .sha) (regValue 7#5 w0) (regValue 6#5 w0) w0.flags.c = none := by decide

theorem witness_RegisterShiftRange_op2 :
    (Instr.rrrShAdd 5#5 6#5 false 6#5 7#5).violation = none ∧
    alu (op1Alu (.base .add)) (regValue 6#5 w0) (regValue 7#5 w0) w0.flags.c =
      some ⟨0x2004#32, .known false, false⟩ ∧
    alu (opHAlu .sh) (regValue 6#5 w0) 0x2004#32 w0.flags.c = none := by decide

theorem witness_RegisterShiftRange_rrm :
    (Instr.rrmStSha 5#5 6#5 .off 6#5 0#3).violation = none ∧ Mode.off ≠ .base ∧
    alu (rrmAlu (.shifted true true 0#3)) (regValue 6#5 w0) (regValue 6#5 w0) w0.flags.c = none := by decide

theorem witness_AccessStops :
    (Instr.rmLd 5#5 6#5 .off 2#16).violation = none ∧
    dataAccess (.rmLd 5#5 6#5 .off 2#16) w0 = some (0x2002#32, 4) ∧ (0x2002#32).toNat % 4 ≠ 0 ∧
    (Instr.splsStb 5#5 7#5 .base false 0#10).violation = none ∧
    dataAccess (.splsStb 5#5 7#5 .base false 0#10) w0 = some (4#32, 1) ∧ (4#32).toNat % 1 = 0 ∧
    memValid w0.params 4#32 1 = false := by decide

theorem witness_WriteCollisionRefused : writeReg? (.riAdd 5#5 6#5 false false 1#16) = some 4 ∧
    ∃ t, exec (.riAdd 5#5 6#5 false false 1#16) { wLate with lp := none } = .next t :=
  ⟨by decide, next_of_after (by decide)⟩

theorem witness_JumpInShadowRefused : isPunt (.brT 0x400#23) = false ∧ wShadow.js = true ∧
    (after (.brT 0x400#23) { wShadow with js := false }).map State.js = some true := by decide

/-- As `w0`, with R0 hardwired, the flags in R30, and a value about to land there. -/
def wFlags : State := { special w0 with lp := some ⟨29, 5#32⟩ }

theorem witness_MisalignedJumpRefused_ri :
    (Instr.riAdd 2#5 2#5 false false 3#16).form = .ri (.plain .add false) 2#5 2#5 false 3#16 ∧
    alu (opHAlu (.plain .add false)) (regValue 2#5 w0) (riConst (.plain .add false) 3#16) w0.flags.c =
      some ⟨0x1007#32, .known false, false⟩ ∧ aligned4 0x1007#32 = false ∧ freeFlags false none w0 ∧
    wFlags.lp = some ⟨29, 5#32⟩ ∧ flagsIn wFlags.params 29 ≠ none :=
  ⟨rfl, by decide, by decide, freeFlags_of_default rfl, rfl, by decide⟩

theorem witness_MisalignedJumpRefused_rr :
    (Instr.rrAdd 2#5 6#5 false 8#5 0#5).form = .rr (.plain .add 0#5) 2#5 6#5 false 8#5 ∧
    alu (opJAlu (.plain .add 0#5)) (regValue 6#5 w0) (regValue 8#5 w0) w0.flags.c =
      some ⟨0x1FFF#32, .known true, false⟩ ∧ aligned4 0x1FFF#32 = false ∧ freeFlags false none w0 ∧
    alu (opJAlu (.plain .add 0#5)) (regValue 6#5 wFlags) (regValue 8#5 wFlags) wFlags.flags.c =
      some ⟨0x1FFF#32, .known true, false⟩ :=
  ⟨rfl, by decide, by decide, freeFlags_of_default rfl, by decide⟩

theorem witness_InvKept : Inv w0 ∧ (ran w0).isSome = true :=
  ⟨⟨by decide, by decide, by decide, by decide⟩, by decide⟩

theorem witness_Sequencing : isPunt (.rmLd 5#5 6#5 .base 0#16) = false ∧
    (∃ t, exec (.rmLd 5#5 6#5 .base 0#16) wShadow = .next t) ∧
    (after (.rmLd 5#5 6#5 .base 0#16) wShadow).map State.js = some false ∧
    (after (.brT 0#23) w0).map State.js = some true :=
  ⟨by decide, next_of_after (by decide), by decide, by decide⟩

theorem witness_LateValueLands : (∃ t, exec (.rmLd 5#5 6#5 .base 0#16) wLate = .next t) ∧
    wLate.lp = some ⟨4, 0x11111111#32⟩ ∧ quiet (.rmLd 5#5 6#5 .base 0#16) wLate ∧ behaviour wLate.params 4 = none :=
  ⟨next_of_after (by decide), rfl, quiet_of_default rfl, rfl⟩

theorem witness_LateValueInvisible :
    quiet (.rrAdd 6#5 5#5 true 5#5 0#5) { w0 with lp := some ⟨4, 7#32⟩ } ∧
    ∃ t, exec (.rrAdd 6#5 5#5 true 5#5 0#5) { w0 with lp := some ⟨4, 7#32⟩ } = .next t :=
  ⟨quiet_of_default rfl, next_of_after (by decide)⟩

theorem witness_RegistersKept : (∃ t, exec (.rmSt 7#5 6#5 .post 4#16) wLate = .next t) ∧
    writeReg? (.rmSt 7#5 6#5 .post 4#16) ≠ some 6 ∧ (4 : Gpr) ≠ 6 ∧ quiet (.rmSt 7#5 6#5 .post 4#16) wLate ∧
    behaviour wLate.params 6 ≠ some .sideEffect ∧ flagsIn wLate.params 6 = none :=
  ⟨next_of_after (by decide), by decide, by decide, quiet_of_default rfl, by decide, rfl⟩

theorem witness_FlagsKept : setsFlags (.rrSub 5#5 6#5 false 7#5 0#5) = false ∧
    quiet (.rrSub 5#5 6#5 false 7#5 0#5) w0 ∧ (∃ t, exec (.rrSub 5#5 6#5 false 7#5 0#5) w0 = .next t) ∧
    writeReg? (.rrSub 5#5 6#5 false 7#5 0#5) = some 4 ∧ flagsIn w0.params 4 = none ∧ w0.lp = none :=
  ⟨by decide, quiet_of_default rfl, next_of_after (by decide), by decide, rfl, rfl⟩

theorem witness_MemoryKept : isStore (.rrSub 5#5 6#5 false 7#5 0#5) = false ∧
    (∃ t, exec (.rrSub 5#5 6#5 false 7#5 0#5) w0 = .next t) ∧ isStore (.slsSt 5#5 0x2000#21) = true ∧
    ∃ t, exec (.slsSt 5#5 0x2000#21) w0 = .next t :=
  ⟨by decide, next_of_after (by decide), by decide, next_of_after (by decide)⟩

theorem witness_StoredAddressesGrow : (after (.slsSt 5#5 0x2000#21) { w0 with stored := [0x2001] }).map State.stored =
    some [0x2000, 0x2001, 0x2002, 0x2003] := by decide

theorem witness_ContextOnlyByPunt : isPunt .punt = true ∧ (∃ t, exec .punt w0 = .next t) ∧
    isPunt (.sli 5#5 0#21) = false ∧ ∃ t, exec (.sli 5#5 0#21) w0 = .next t :=
  ⟨by decide, next_of_after (by decide), by decide, next_of_after (by decide)⟩

theorem witness_ContextNotRead : isPunt (.sbrT 6#5 7#5) = false ∧ ∃ t, exec (.sbrT 6#5 7#5) w0 = .next t :=
  ⟨by decide, next_of_after (by decide)⟩

/-- A hardwired register, a plain one beside it, the flags' register, an effect that meets it, the default. -/
theorem witness_SpecialRegisters :
    behaviour (special w0).params 0 = some (.hardwired 0#32) ∧ behaviour (special w0).params 29 = none ∧
    (5 : Gpr) ≠ 0 ∧ flagsIn (special w0).params 5 = none ∧
    flagsIn (special w0).params 29 = some ⟨30#5, 0, 1, 2, 3⟩ ∧ (special w0).lp = none ∧
    ({ special w0 with lp := some ⟨29, 1#32⟩ } : State).lp = some ⟨29, 1#32⟩ ∧
    w0.params.specialRegs = [] ∧
    (world 0#32 []).params.flagsAlias = none ∧
    touches { w0 with params := { w0.params with specialRegs := [(6#5, .sideEffect)] } } [6#5] = true := by decide

theorem witness_AddressModes : Mode.pre.bits.getLsbD 0 = true ∧ gpr? 30#5 = some 29 ∧ behaviour w0.params 29 = none ∧
    ¬ (Mode.off.bits.getLsbD 0 = true ∧ gpr? 30#5 = some 29) := by decide


end Sys2Proof.Tests
end

