-- ==== Sys2Proof/Proofs/Alu.lean ====
section
/-! PROOF. The adder, the subtractions built on it and the logic operations (40_alu_operations.md R141 to
R147). -/

namespace Sys2Proof.Machine

/-! ## The adder (R141) -/

/-- A carry in of one bit, as the word that is added. -/
theorem toNat_carryIn (cin : Bool) : (if cin then 1#32 else 0#32).toNat = cin.toNat := by
  cases cin <;> rfl

theorem adder_r_toNat (x y : Word) (cin : Bool) :
    (adder x y cin).r.toNat = (x.toNat + y.toNat + cin.toNat) % 2 ^ 32 :=
  BitVec.toNat_ofNat _ _

theorem adder_cout_iff (x y : Word) (cin : Bool) :
    (adder x y cin).cout = true ↔ 2 ^ 32 ≤ x.toNat + y.toNat + cin.toNat :=
  decide_eq_true_iff

theorem adder_v_iff (x y : Word) (cin : Bool) :
    (adder x y cin).v = true ↔ sign x = sign y ∧ sign (adder x y cin).r ≠ sign x := by
  simp only [adder, Bool.and_eq_true, beq_iff_eq, bne_iff_ne]

/-- The narrowed exact sum is the sum of words. -/
theorem adder_r_eq_add (x y : Word) (cin : Bool) :
    (adder x y cin).r = x + y + (if cin then 1#32 else 0#32) := by
  apply BitVec.eq_of_toNat_eq
  rw [adder_r_toNat, BitVec.toNat_add, BitVec.toNat_add, toNat_carryIn, Nat.mod_add_mod]

/-! ## Subtraction as an addition of the complement (R144, R145) -/

/-- Adding the complement falls one short of subtracting. -/
theorem add_not_eq_sub_sub_one (a b : Word) : a + ~~~b = a - b - 1#32 := by
  simp only [BitVec.not_eq_neg_add, BitVec.sub_eq_add_neg, BitVec.add_assoc]

theorem adder_not_r (a b : Word) (cin : Bool) :
    (adder a (~~~b) cin).r = a - b - 1#32 + (if cin then 1#32 else 0#32) := by
  rw [adder_r_eq_add, add_not_eq_sub_sub_one]

theorem adder_not_true_r (a b : Word) : (adder a (~~~b) true).r = a - b := by
  rw [adder_not_r, if_pos rfl, BitVec.sub_add_cancel]

/-- `a + (2^32 - 1 - b) + 1` reaches `2^32` exactly when `b ≤ a`: the carry out is the absence of a borrow. -/
theorem adder_not_true_cout_iff (a b : Word) :
    (adder a (~~~b) true).cout = true ↔ b.toNat ≤ a.toNat := by
  have hb : b.toNat < 2 ^ 32 := b.isLt
  rw [adder_cout_iff, BitVec.toNat_not, Bool.toNat_true]
  omega

/-! ## The operations of `alu` (R155) -/

theorem alu_add (a b : Word) (c : Bool) : alu .add a b c = some (adder a b false).out := rfl

theorem alu_sub (a b : Word) (c : Bool) : alu .sub a b c = some (adder a (~~~b) true).out := rfl

theorem alu_subb (a b : Word) (c : Bool) : alu .subb a b c = some (adder a (~~~b) c).out := rfl

theorem alu_and (a b : Word) (c : Bool) : alu .and a b c = some (logicOut (a &&& b)) := rfl

theorem alu_or (a b : Word) (c : Bool) : alu .or a b c = some (logicOut (a ||| b)) := rfl

theorem alu_xor (a b : Word) (c : Bool) : alu .xor a b c = some (logicOut (a ^^^ b)) := rfl

/-- What `and`, `or` and `xor` share (R147): an operation that answers a logic result answers its bits, with no
carry and no overflow. -/
theorem alu_bit_of_logicOut {op : AluOp} {a b r : Word} {c d : Bool} {n : Nat}
    (hr : alu op a b c = some (logicOut r)) (hd : r.getLsbD n = d) :
    ∃ o, alu op a b c = some o ∧ o.r.getLsbD n = d ∧ o.carry = .logic ∧ o.v = false :=
  ⟨logicOut r, hr, hd, rfl, rfl⟩

/-! ## The statements -/

/-- Settles O8: the result, the carry out and the overflow each by the adder's own lemma. -/
theorem adderRule : Obligations.AdderRule := by
  intro x y cin
  exact ⟨adder_r_toNat x y cin, adder_cout_iff x y cin, adder_v_iff x y cin⟩

/-- Settles O9: every operation is an addition, and an addition of the complement is a subtraction. -/
theorem addSubRules : Obligations.AddSubRules := by
  intro a b c
  have hadd : (adder a b false).r = a + b := by
    rw [adder_r_eq_add, if_neg Bool.false_ne_true, BitVec.add_zero]
  exact ⟨alu_add a b c, hadd, alu_sub a b c, adder_not_true_r a b, adder_not_true_cout_iff a b,
    alu_subb a b c, adder_not_r a b c⟩

/-- Settles O12: the three operations answer a logic result, whose bits are those of the bitwise operation. -/
theorem logicRule : Obligations.LogicRule := by
  intro a b c n _
  exact ⟨alu_bit_of_logicOut (alu_and a b c) BitVec.getLsbD_and,
    alu_bit_of_logicOut (alu_or a b c) BitVec.getLsbD_or,
    alu_bit_of_logicOut (alu_xor a b c) BitVec.getLsbD_xor⟩

end Sys2Proof.Machine
end

