-- ==== Sys2Proof/Proofs/Br.lean ====
section
/-! PROOF. The branch that is never taken (46_br.md R297): the fields of a BR word read back (30_encoding.md
R106), so a BR word decodes to its instruction, and a branch whose condition is false only advances (R290). -/

namespace Sys2Proof

/-! ## The fields of a BR word (R106) -/

/-- DDD and I name their condition (46_br.md R292). -/
theorem Cond.ofBits_ddd_inv (c : Cond) : Cond.ofBits c.ddd c.inv = c := by
  cases c <;> rfl

theorem fld_opcode_br (rel : Bool) (c : Cond) (k : BitVec 23) :
    fld (encodeForm (.br rel c k)) 28 4 = 14#4 := by
  simp (disch := decide) only [encodeForm, fld_or, fld_put_same, fld_put_high, fld_putBit_high, BitVec.or_zero]

theorem fld_ddd_br (rel : Bool) (c : Cond) (k : BitVec 23) :
    fld (encodeForm (.br rel c k)) 25 3 = c.ddd := by
  simp (disch := decide) only [encodeForm, fld_or, fld_put_same, fld_put_low, fld_put_high, fld_putBit_high,
    BitVec.or_zero, BitVec.zero_or]

theorem fld_constant_br (rel : Bool) (c : Cond) (k : BitVec 23) :
    fld (encodeForm (.br rel c k)) 2 23 = k := by
  simp (disch := decide) only [encodeForm, fld_or, fld_put_same, fld_put_low, fld_putBit_high,
    BitVec.or_zero, BitVec.zero_or]

theorem bit_rel_br (rel : Bool) (c : Cond) (k : BitVec 23) : bit (encodeForm (.br rel c k)) 1 = rel := by
  simp (disch := decide) [encodeForm, bit_or, bit_put_low, bit_putBit]

theorem bit_inv_br (rel : Bool) (c : Cond) (k : BitVec 23) : bit (encodeForm (.br rel c k)) 0 = c.inv := by
  simp (disch := decide) [encodeForm, bit_or, bit_put_low, bit_putBit]

/-! ## Decoding a BR word (R113) -/

theorem decodeForm_of_opcode_br {w : Word} (h : fld w 28 4 = 14#4) (hasSbr : Bool) :
    decodeForm hasSbr w = .ok (.br (bit w 1) (Cond.ofBits (fld w 25 3) (bit w 0)) (fld w 2 23)) := by
  unfold decodeForm
  rw [h]
  rfl

theorem decodeForm_encodeForm_br (hasSbr rel : Bool) (c : Cond) (k : BitVec 23) :
    decodeForm hasSbr (encodeForm (.br rel c k)) = .ok (.br rel c k) := by
  rw [decodeForm_of_opcode_br (fld_opcode_br rel c k), fld_ddd_br, fld_constant_br, bit_rel_br, bit_inv_br,
    Cond.ofBits_ddd_inv]

/-- Every BR instruction is decoded from its word. -/
theorem decode_encode_of_form_br {i : Instr} {rel : Bool} {c : Cond} {k : BitVec 23} (hi : i.form = .br rel c k)
    (hback : i.form.instr = i) (hasSbr : Bool) : decode hasSbr (encode i) = .ok i := by
  have hform : decodeForm hasSbr (encode i) = .ok i.form := by
    rw [encode, hi, decodeForm_encodeForm_br]
  simp only [decode, hform, hback]

namespace Machine

/-! ## A branch that is not taken (R290) -/

theorem branchEffects_not_taken {c : Cond} {s : State} (h : cond c s.flags = false) (t : Word) :
    branchEffects c t s = {} := by
  simp [branchEffects, h]

/-- A step without effects of its own is the landing and the advance. -/
theorem applyEffects_empty (s : State) : applyEffects {} s = fallThrough s := rfl

theorem collision_empty (s : State) : collision {} s = none := rfl

/-- A branch that is not taken advances, whatever its target and the shadow it stands in. -/
theorem exec_br_not_taken {i : Instr} {rel : Bool} {c : Cond} {k : BitVec 23} {s : State}
    (hi : i.form = .br rel c k) (hc : cond c s.flags = false) : exec i s = .next (settled i s (fallThrough s)) := by
  have hp : isPunt i = false := by simp [isPunt, hi]
  have he : formEffects i.form s = .ok {} := by rw [hi, formEffects, branchEffects_not_taken hc]
  exact (exec_next hp).2 ⟨{}, he, collision_empty s, nofun, by rw [applyEffects_empty]⟩

/-- Without a side effect the end of a step is its state. -/
theorem settled_of_quiet {i : Instr} {s : State} (h : quiet i s) (t : State) : settled i s t = t :=
  afterAccess_quiet h t

/-! ## The statement -/

/-- Settles O39: the word by its fields, the step as that of a branch whose condition is false of any flags. -/
theorem branchNever : Obligations.BranchNever := by
  refine ⟨by decide, fun k s => ⟨?_, fld_ddd_br false .f k, bit_inv_br false .f k, fun hq => ?_⟩⟩
  · exact decode_encode_of_form_br rfl (Laws.FormRoundTrip.brF k) true
  · have hstep : exec (.brF k) s = .next (settled (.brF k) s (fallThrough s)) := exec_br_not_taken rfl rfl
    rw [hstep, settled_of_quiet hq]

end Machine

end Sys2Proof
end

section
/-! PROOF. Decoding and encoding are inverse to each other (30_encoding.md R101 to R117): the fields of an encoded
word read back, format by format, and a word is the union of the fields that its format decodes. -/

namespace Sys2Proof

/-! ## The codes of the operation fields (R140, R241, R262, R355) -/

theorem BaseOp.ofBits_bits (op : BaseOp) : BaseOp.ofBits op.bits = some op := by cases op <;> rfl

theorem BaseOp.ofBits_eq_none {b : BitVec 3} : BaseOp.ofBits b = none ↔ b = 7#3 := by revert b; decide

theorem BaseOp.bits_of_ofBits {b : BitVec 3} {op : BaseOp} (h : BaseOp.ofBits b = some op) : op.bits = b := by
  revert b op; decide

theorem OpH.ofBits_aaa_h (op : OpH) : OpH.ofBits op.aaa op.h = op := by
  cases op with
  | plain b h => simp only [OpH.aaa, OpH.h, OpH.ofBits, BaseOp.ofBits_bits]
  | sh => rfl
  | sha => rfl

@[simp] theorem OpH.aaa_ofBits (b : BitVec 3) (h : Bool) : (OpH.ofBits b h).aaa = b := by
  revert b h; decide

@[simp] theorem OpH.h_ofBits (b : BitVec 3) (h : Bool) : (OpH.ofBits b h).h = h := by
  revert b h; decide

theorem Op1.ofBits_bits (op : Op1) : Op1.ofBits op.bits = op := by
  cases op with
  | base b => simp only [Op1.bits, Op1.ofBits, BaseOp.ofBits_bits]
  | sha => rfl

@[simp] theorem Op1.bits_ofBits (b : BitVec 3) : (Op1.ofBits b).bits = b := by revert b; decide

theorem Mode.ofBits_bits (m : Mode) : Mode.ofBits m.bits = m := by cases m <;> rfl

@[simp] theorem Mode.bits_ofBits (b : BitVec 2) : (Mode.ofBits b).bits = b := by revert b; decide

@[simp] theorem Cond.ddd_ofBits (b : BitVec 3) (i : Bool) : (Cond.ofBits b i).ddd = b := by
  revert b i; decide

@[simp] theorem Cond.inv_ofBits (b : BitVec 3) (i : Bool) : (Cond.ofBits b i).inv = i := by
  revert b i; decide

theorem RrmAcc.ofBits_bits (acc : RrmAcc) : RrmAcc.ofBits acc.store acc.y acc.l acc.e = some acc := by
  cases acc <;> rfl

theorem RrmAcc.ofBits_eq_none {s y l e : Bool} : RrmAcc.ofBits s y l e = none ↔ y = true ∧ l = true := by
  revert s y l e; decide

theorem RrmAcc.bits_of_ofBits {s y l e : Bool} {acc : RrmAcc} (h : RrmAcc.ofBits s y l e = some acc) :
    acc.store = s ∧ acc.y = y ∧ acc.l = l ∧ acc.e = e := by
  revert h; cases s <;> cases y <;> cases l <;> cases e <;> rintro ⟨⟩ <;> decide

theorem SplsAcc.ofBits_bits (acc : SplsAcc) : SplsAcc.ofBits acc.y acc.s acc.e = acc := by
  cases acc <;> rfl

theorem SplsAcc.bits_ofBits (y s e : Bool) :
    (SplsAcc.ofBits y s e).y = y ∧ (SplsAcc.ofBits y s e).s = s ∧ (SplsAcc.ofBits y s e).e = e := by
  revert y s e; decide

/-! ## Instructions and formats (R132) -/

theorem Instr.instr_form (i : Instr) : i.form.instr = i := by
  cases i <;> rfl

theorem Form.form_instr (x : Form) : x.instr.form = x := by
  cases x with
  | ri op => rcases op with ⟨⟨⟩, h⟩ | _ | _ <;> rfl
  | rr op => rcases op with ⟨⟨⟩, j⟩ | _ | _ <;> rfl
  | rrr op2 op1 =>
    rcases op1 with ⟨⟨⟩⟩ | _ <;> rcases op2 with ⟨⟨⟩, h⟩ | _ | _ <;> rfl
  | rm store => cases store <;> rfl
  | rrm y =>
    rcases y with ⟨acc, op, j⟩ | ⟨store, arith, yle⟩
    · cases acc <;> cases op <;> rfl
    · cases store <;> cases arith <;> rfl
  | br rel c => cases rel <;> cases c <;> rfl
  | punt => rfl
  | sls store => cases store <;> rfl
  | sli => rfl
  | spls acc => cases acc <;> rfl
  | sbr c => cases c <;> rfl

theorem decode_eq_ok {hasSbr : Bool} {w : Word} {i : Instr} :
    decode hasSbr w = .ok i ↔ decodeForm hasSbr w = .ok i.form := by
  unfold decode
  cases decodeForm hasSbr w with
  | error e => simp
  | ok x =>
    simp only [Except.ok.injEq]
    exact ⟨fun h => by rw [← h, Form.form_instr], fun h => by rw [h, Instr.instr_form]⟩

theorem decode_eq_error {hasSbr : Bool} {w : Word} {e : DecodeError} :
    decode hasSbr w = .error e ↔ decodeForm hasSbr w = .error e := by
  unfold decode
  cases decodeForm hasSbr w <;> simp

/-! ## Fields of fields -/

theorem fld_getLsbD (w : Word) (lo len i : Nat) : (fld w lo len).getLsbD i = (decide (i < len) && bit w (lo + i)) := by
  simp [fld, bit]

theorem bit_eq_fld_getLsbD {len i : Nat} (w : Word) (lo : Nat) (h : i < len) :
    bit w (lo + i) = (fld w lo len).getLsbD i := by
  rw [fld_getLsbD, decide_eq_true h, Bool.true_and]

theorem fld_eq_extract {len len' i : Nat} (w : Word) (lo : Nat) (h : i + len' ≤ len) :
    fld w (lo + i) len' = (fld w lo len).extractLsb' i len' := by
  apply BitVec.eq_of_getLsbD_eq
  intro n hn
  rw [fld_getLsbD, BitVec.getLsbD_extractLsb', fld_getLsbD, decide_eq_true hn,
    decide_eq_true (show i + n < len by omega), Nat.add_assoc]
  rfl

/-- Two fields side by side are one. -/
theorem fld_append (w : Word) (lo a b : Nat) : fld w (lo + a) b ++ fld w lo a = fld w lo (b + a) :=
  BitVec.extractLsb'_append_extractLsb'_eq_extractLsb' rfl

theorem fld_eq_iff {w : Word} {lo len : Nat} {x : BitVec len} :
    fld w lo len = x ↔ ∀ i, i < len → bit w (lo + i) = x.getLsbD i := by
  constructor
  · rintro rfl i hi
    exact bit_eq_fld_getLsbD w lo hi
  · intro h
    apply BitVec.eq_of_getLsbD_eq
    intro i hi
    rw [← bit_eq_fld_getLsbD w lo hi, h i hi]

theorem fld_two {w : Word} {lo : Nat} {x : BitVec 2} :
    fld w lo 2 = x ↔ bit w (lo + 1) = x.getLsbD 1 ∧ bit w lo = x.getLsbD 0 := by
  rw [fld_eq_iff]
  constructor
  · intro h
    exact ⟨h 1 (by decide), h 0 (by decide)⟩
  · rintro ⟨h1, h0⟩ i hi
    interval_cases i <;> assumption

theorem fld_three {w : Word} {lo : Nat} {x : BitVec 3} : fld w lo 3 = x ↔
    bit w (lo + 2) = x.getLsbD 2 ∧ bit w (lo + 1) = x.getLsbD 1 ∧ bit w lo = x.getLsbD 0 := by
  rw [fld_eq_iff]
  constructor
  · intro h
    exact ⟨h 2 (by decide), h 1 (by decide), h 0 (by decide)⟩
  · rintro ⟨h2, h1, h0⟩ i hi
    interval_cases i <;> assumption

/-! ## The opcode (R113) -/

theorem fld_29_eq (w : Word) : fld w 29 3 = (fld w 28 4).extractLsb' 1 3 :=
  fld_eq_extract (i := 1) w 28 (by decide)

theorem bit_31_eq_false {w : Word} : bit w 31 = false ↔ (fld w 28 4).toNat < 8 := by
  rw [show bit w 31 = (fld w 28 4).getLsbD 3 from bit_eq_fld_getLsbD (i := 3) w 28 (by decide)]
  generalize fld w 28 4 = v
  revert v; decide

theorem fld_29_eq_four {w : Word} : fld w 29 3 = 4#3 ↔ fld w 28 4 = 8#4 ∨ fld w 28 4 = 9#4 := by
  rw [fld_29_eq]
  generalize fld w 28 4 = v
  revert v; decide

theorem fld_29_eq_five {w : Word} : fld w 29 3 = 5#3 ↔ fld w 28 4 = 10#4 ∨ fld w 28 4 = 11#4 := by
  rw [fld_29_eq]
  generalize fld w 28 4 = v
  revert v; decide

/-- Bits 31:28 select the format. -/
theorem opcode_cases (w : Word) : bit w 31 = false ∨ fld w 29 3 = 4#3 ∨ fld w 29 3 = 5#3 ∨ fld w 28 4 = 12#4 ∨
    fld w 28 4 = 13#4 ∨ fld w 28 4 = 14#4 ∨ fld w 28 4 = 15#4 := by
  rw [bit_31_eq_false, fld_29_eq_four, fld_29_eq_five]
  generalize fld w 28 4 = v
  revert v; decide

/-- An RI word is no RR, RRM or special word. -/
theorem opcode_ri {w : Word} (h : bit w 31 = false) :
    fld w 28 4 ≠ 12#4 ∧ fld w 28 4 ≠ 15#4 ∧ fld w 29 3 ≠ 5#3 := by
  rw [bit_31_eq_false] at h
  rw [ne_eq (fld w 29 3), fld_29_eq_five]
  revert h
  generalize fld w 28 4 = v
  revert v; decide

/-- An RM word is no RR, RRM or special word. -/
theorem opcode_rm {w : Word} (h : fld w 29 3 = 4#3) :
    fld w 28 4 ≠ 12#4 ∧ fld w 28 4 ≠ 15#4 ∧ fld w 29 3 ≠ 5#3 := by
  rw [h]
  rcases fld_29_eq_four.1 h with hc | hc <;> rw [hc] <;> decide

/-- An RRM word is no RR or special word. -/
theorem opcode_rrm {w : Word} (h : fld w 29 3 = 5#3) : fld w 28 4 ≠ 12#4 ∧ fld w 28 4 ≠ 15#4 := by
  rcases fld_29_eq_five.1 h with hc | hc <;> rw [hc] <;> decide

theorem opcode_of_four {w : Word} {v : BitVec 4} (h : fld w 28 4 = v) : fld w 29 3 = v.extractLsb' 1 3 := by
  rw [fld_29_eq, h]

theorem decodeForm_of_opcode_ri {w : Word} (h : bit w 31 = false) (hasSbr : Bool) : decodeForm hasSbr w =
    .ok (.ri (OpH.ofBits (fld w 28 3) (bit w 16)) (fld w 23 5) (fld w 18 5) (bit w 17) (fld w 0 16)) := by
  have hlt := bit_31_eq_false.1 h
  unfold decodeForm
  interval_cases (fld w 28 4).toNat <;> rfl

theorem decodeForm_of_opcode_rm {w : Word} (h : fld w 29 3 = 4#3) (hasSbr : Bool) : decodeForm hasSbr w =
    .ok (.rm (bit w 28) (fld w 23 5) (fld w 18 5) (Mode.ofBits (fld w 16 2)) (fld w 0 16)) := by
  unfold decodeForm
  rcases fld_29_eq_four.1 h with hc | hc <;> rw [hc] <;> rfl

theorem decodeForm_of_opcode_rrm {w : Word} (h : fld w 29 3 = 5#3) (hasSbr : Bool) :
    decodeForm hasSbr w = decodeRrm w := by
  unfold decodeForm
  rcases fld_29_eq_five.1 h with hc | hc <;> rw [hc] <;> rfl

theorem decodeForm_of_opcode_rr {w : Word} (h : fld w 28 4 = 12#4) (hasSbr : Bool) :
    decodeForm hasSbr w = decodeRr w := by
  unfold decodeForm
  rw [h]
  rfl

theorem decodeForm_of_opcode_rrr {w : Word} (h : fld w 28 4 = 13#4) (hasSbr : Bool) : decodeForm hasSbr w =
    .ok (.rrr (OpH.ofBits (fld w 8 3) (bit w 16)) (Op1.ofBits (fld w 0 3)) (fld w 23 5) (fld w 18 5) (bit w 17)
      (fld w 11 5) (fld w 3 5)) := by
  unfold decodeForm
  rw [h]
  rfl

theorem decodeForm_of_opcode_special {w : Word} (h : fld w 28 4 = 15#4) (hasSbr : Bool) :
    decodeForm hasSbr w = decodeSpecial hasSbr w := by
  unfold decodeForm
  rw [h]
  rfl

/-! ## Decoding an encoded word, format by format -/

theorem decodeForm_encodeForm_ri (hasSbr : Bool) (op : OpH) (rd rs1 : Reg) (f : Bool) (k : BitVec 16) :
    decodeForm hasSbr (encodeForm (.ri op rd rs1 f k)) = .ok (.ri op rd rs1 f k) := by
  have hopcode : bit (encodeForm (.ri op rd rs1 f k)) 31 = false := by
    simp (disch := decide) [encodeForm, bit_or, bit_put_high, bit_put, bit_putBit]
  rw [decodeForm_of_opcode_ri hopcode]
  simp (disch := decide) [encodeForm, fld_or, fld_put_same, fld_put_low, fld_put_high, fld_putBit_high,
    fld_putBit_low, bit_or, bit_put_low, bit_put_high, bit_putBit, OpH.ofBits_aaa_h]

theorem decodeForm_encodeForm_rr (hasSbr : Bool) (op : OpJ) (rd rs1 : Reg) (f : Bool) (rs2 : Reg) :
    decodeForm hasSbr (encodeForm (.rr op rd rs1 f rs2)) = .ok (.rr op rd rs1 f rs2) := by
  have hopcode : fld (encodeForm (.rr op rd rs1 f rs2)) 28 4 = 12#4 := by
    simp (disch := decide) [encodeForm, fld_or, fld_put_same, fld_put_high, fld_putBit_high]
  rw [decodeForm_of_opcode_rr hopcode]
  cases op <;>
    simp (disch := decide) [encodeForm, decodeRr, rrFields, OpJ.bbb, OpJ.jjjjj, BaseOp.ofBits_bits,
      BaseOp.ofBits_eq_none.2, fld_or, fld_put_same, fld_put_low, fld_put_high, fld_put_sub, fld_putBit_high,
      fld_putBit_low, bit_or, bit_put_low, bit_put_high, bit_put, bit_putBit]

theorem decodeForm_encodeForm_rrr (hasSbr : Bool) (op2 : OpH) (op1 : Op1) (rd rs1 : Reg) (f : Bool) (rs2 rs3 : Reg) :
    decodeForm hasSbr (encodeForm (.rrr op2 op1 rd rs1 f rs2 rs3)) = .ok (.rrr op2 op1 rd rs1 f rs2 rs3) := by
  have hopcode : fld (encodeForm (.rrr op2 op1 rd rs1 f rs2 rs3)) 28 4 = 13#4 := by
    simp (disch := decide) [encodeForm, fld_or, fld_put_same, fld_put_high, fld_putBit_high]
  rw [decodeForm_of_opcode_rrr hopcode]
  simp (disch := decide) [encodeForm, fld_or, fld_put_same, fld_put_low, fld_put_high, fld_putBit_high,
    fld_putBit_low, bit_or, bit_put_low, bit_put_high, bit_putBit, OpH.ofBits_aaa_h, Op1.ofBits_bits]

theorem decodeForm_encodeForm_rm (hasSbr store : Bool) (rd rs1 : Reg) (m : Mode) (k : BitVec 16) :
    decodeForm hasSbr (encodeForm (.rm store rd rs1 m k)) = .ok (.rm store rd rs1 m k) := by
  have hopcode : fld (encodeForm (.rm store rd rs1 m k)) 29 3 = 4#3 := by
    simp (disch := decide) [encodeForm, fld_or, fld_put_same, fld_put_high, fld_putBit_high]
  rw [decodeForm_of_opcode_rm hopcode]
  simp (disch := decide) [encodeForm, fld_or, fld_put_same, fld_put_low, fld_put_high, fld_putBit_low,
    bit_or, bit_put_low, bit_put_high, bit_putBit, Mode.ofBits_bits]

/-- The three bits of YLE, each in its place, are YLE (R105). -/
theorem fld_yle (y : BitVec 3) : fld (putBit 2 y[2] ||| putBit 1 y[1] ||| putBit 0 y[0]) 0 3 = y := by
  revert y; decide

theorem decodeForm_encodeForm_rrm (hasSbr : Bool) (x : RrmForm) (rd rs1 : Reg) (m : Mode) (rs2 : Reg) :
    decodeForm hasSbr (encodeForm (.rrm x rd rs1 m rs2)) = .ok (.rrm x rd rs1 m rs2) := by
  have hopcode : fld (encodeForm (.rrm x rd rs1 m rs2)) 29 3 = 5#3 := by
    simp (disch := decide) [encodeForm, fld_or, fld_put_same, fld_put_high, fld_putBit_high]
  rw [decodeForm_of_opcode_rrm hopcode]
  rcases x with ⟨acc, op, j⟩ | ⟨store, arith, yle⟩
  · simp (disch := decide) [encodeForm, decodeRrm, rrmFields, RrmForm.s, RrmForm.bbb, RrmForm.jjjjj, RrmForm.y,
      RrmForm.l, RrmForm.e, RrmAcc.ofBits_bits, Mode.ofBits_bits, BaseOp.ofBits_bits, fld_or, fld_put_same,
      fld_put_low, fld_put_high, fld_putBit_high, fld_putBit_low, bit_or, bit_put_low, bit_put_high, bit_putBit]
  · have hyle := fld_yle yle
    rw [fld_or, fld_or] at hyle
    cases arith <;>
      simp (disch := decide) [encodeForm, decodeRrm, rrmFields, RrmForm.s, RrmForm.bbb, RrmForm.jjjjj, RrmForm.y,
        RrmForm.l, RrmForm.e, Mode.ofBits_bits, BaseOp.ofBits_eq_none.2, fld_or, fld_put_same, fld_put_low,
        fld_put_high, fld_put_sub, fld_putBit_high, fld_putBit_low, bit_or, bit_put_low, bit_put_high, bit_put,
        bit_putBit, hyle]

theorem decodeForm_encodeForm_punt (hasSbr : Bool) : decodeForm hasSbr (encodeForm .punt) = .ok .punt := by
  revert hasSbr; decide

theorem decodeForm_encodeForm_sls (hasSbr store : Bool) (rd : Reg) (a : BitVec 21) :
    decodeForm hasSbr (encodeForm (.sls store rd a)) = .ok (.sls store rd a) := by
  have hopcode : fld (encodeForm (.sls store rd a)) 28 4 = 15#4 := by
    simp (disch := decide) [encodeForm, fld_or, fld_put_same, fld_put_high, fld_putBit_high]
  rw [decodeForm_of_opcode_special hopcode]
  simpa (disch := decide) [encodeForm, decodeSpecial, fld_or, fld_put_same, fld_put_low, fld_put_high,
    fld_putBit_high, fld_putBit_low, bit_or, bit_put_low, bit_put_high, bit_put, bit_putBit] using join21_parts a

theorem decodeForm_encodeForm_sli (hasSbr : Bool) (rd : Reg) (k : BitVec 21) :
    decodeForm hasSbr (encodeForm (.sli rd k)) = .ok (.sli rd k) := by
  have hopcode : fld (encodeForm (.sli rd k)) 28 4 = 15#4 := by
    simp (disch := decide) [encodeForm, fld_or, fld_put_same, fld_put_high]
  rw [decodeForm_of_opcode_special hopcode]
  simpa (disch := decide) [encodeForm, decodeSpecial, fld_or, fld_put_same, fld_put_low, fld_put_high,
    bit_or, bit_put_low, bit_put_high, bit_put] using join21_parts k

theorem decodeForm_encodeForm_spls (hasSbr : Bool) (acc : SplsAcc) (rd rs1 : Reg) (m : Mode) (k : BitVec 10) :
    decodeForm hasSbr (encodeForm (.spls acc rd rs1 m k)) = .ok (.spls acc rd rs1 m k) := by
  have hopcode : fld (encodeForm (.spls acc rd rs1 m k)) 28 4 = 15#4 := by
    simp (disch := decide) [encodeForm, fld_or, fld_put_same, fld_put_high, fld_putBit_high]
  rw [decodeForm_of_opcode_special hopcode]
  simp (disch := decide) [encodeForm, decodeSpecial, fld_or, fld_put_same, fld_put_low, fld_put_high,
    fld_putBit_high, fld_putBit_low, bit_or, bit_put_low, bit_put_high, bit_put, bit_putBit, SplsAcc.ofBits_bits,
    Mode.ofBits_bits]

theorem decodeForm_encodeForm_sbr (c : Cond) (rs1 rs3 : Reg) :
    decodeForm true (encodeForm (.sbr c rs1 rs3)) = .ok (.sbr c rs1 rs3) := by
  have hopcode : fld (encodeForm (.sbr c rs1 rs3)) 28 4 = 15#4 := by
    simp (disch := decide) [encodeForm, fld_or, fld_put_same, fld_put_high, fld_putBit_high]
  rw [decodeForm_of_opcode_special hopcode]
  simp (disch := decide) [encodeForm, decodeSpecial, decodePuntSbr, fld_or, fld_put_same, fld_put_low,
    fld_put_high, fld_put_sub, fld_putBit_high, bit_or, bit_put_low, bit_put_high, bit_put, bit_putBit,
    Cond.ofBits_ddd_inv]

/-- Every format decodes from its word, SBR where the chip has it. -/
theorem decodeForm_encodeForm {hasSbr : Bool} {x : Form} (h : hasSbr = true ∨ ∀ c rs1 rs3, x ≠ .sbr c rs1 rs3) :
    decodeForm hasSbr (encodeForm x) = .ok x := by
  cases x with
  | ri => exact decodeForm_encodeForm_ri ..
  | rr => exact decodeForm_encodeForm_rr ..
  | rrr => exact decodeForm_encodeForm_rrr ..
  | rm => exact decodeForm_encodeForm_rm ..
  | rrm => exact decodeForm_encodeForm_rrm ..
  | br => exact decodeForm_encodeForm_br ..
  | punt => exact decodeForm_encodeForm_punt ..
  | sls => exact decodeForm_encodeForm_sls ..
  | sli => exact decodeForm_encodeForm_sli ..
  | spls => exact decodeForm_encodeForm_spls ..
  | sbr c rs1 rs3 =>
    obtain rfl : hasSbr = true := h.resolve_right fun hne => hne c rs1 rs3 rfl
    exact decodeForm_encodeForm_sbr ..

/-- Settles O1: the instruction's format decodes from its word, and the instruction is that of its format. -/
theorem decodeEncode : Obligations.DecodeEncode :=
  fun _ _ h => decode_eq_ok.2 (decodeForm_encodeForm h)

/-! ## A word as the union of its fields -/

/-- The `len` bits of `w` from `lo` up, in their place; every other bit 0. -/
def segment (w : Word) (lo len : Nat) : Word := put lo (fld w lo len)

theorem put_fld (w : Word) (lo len : Nat) : put lo (fld w lo len) = segment w lo len := rfl

theorem put_of_fld_eq {w : Word} {lo len : Nat} {x : BitVec len} (h : fld w lo len = x) :
    put lo x = segment w lo len := by
  rw [← h, put_fld]

theorem fld_one (w : Word) (lo : Nat) : fld w lo 1 = BitVec.ofBool (bit w lo) := by
  rw [fld_eq_iff]
  intro i hi
  obtain rfl : i = 0 := by omega
  simp

theorem putBit_bit (w : Word) (lo : Nat) : putBit lo (bit w lo) = segment w lo 1 := put_of_fld_eq (fld_one w lo)

theorem put_zero_of_bit {w : Word} {lo : Nat} (h : bit w lo = false) : put lo 0#1 = segment w lo 1 :=
  put_of_fld_eq (by rw [fld_one, h]; rfl)

theorem put_one_of_bit {w : Word} {lo : Nat} (h : bit w lo = true) : put lo 1#1 = segment w lo 1 :=
  put_of_fld_eq (by rw [fld_one, h]; rfl)

theorem getLsbD_segment (w : Word) (lo len i : Nat) :
    (segment w lo len).getLsbD i = (decide (lo ≤ i) && decide (i < lo + len) && w.getLsbD i) := by
  by_cases hlo : lo ≤ i
  · by_cases hi : i < 32
    · simp [segment, put, fld, hi, hlo, show ¬ i < lo by omega, show i - lo < len ↔ i < lo + len by omega]
    · simp [segment, BitVec.getLsbD_of_ge _ i (by omega : 32 ≤ i)]
  · simp [segment, put, hlo, show i < lo by omega]

/-- Two segments side by side are one. -/
theorem segment_join {w : Word} {lo len mid len' : Nat} (h : mid = lo + len) :
    segment w mid len' ||| segment w lo len = segment w lo (len + len') := by
  subst h
  apply Machine.word_eq_of_getLsbD
  intro i
  simp only [BitVec.getLsbD_or, getLsbD_segment]
  cases w.getLsbD i <;> grind

theorem segment_all (w : Word) : segment w 0 32 = w := by
  apply Machine.word_eq_of_getLsbD
  intro i
  by_cases hi : i < 32
  · simp only [getLsbD_segment, Nat.zero_le, Nat.zero_add, hi, decide_true, Bool.true_and]
  · simp [BitVec.getLsbD_of_ge _ i (by omega : 32 ≤ i)]

/-! ## Encoding a decoded word, format by format -/

theorem encodeForm_decoded_ri {w : Word} (h : bit w 31 = false) :
    encodeForm (.ri (OpH.ofBits (fld w 28 3) (bit w 16)) (fld w 23 5) (fld w 18 5) (bit w 17) (fld w 0 16)) = w := by
  simp (disch := decide) only [encodeForm, OpH.aaa_ofBits, OpH.h_ofBits, put_zero_of_bit h, put_fld, putBit_bit,
    segment_join, Nat.reduceAdd, segment_all]

theorem encodeForm_decoded_rrr {w : Word} (h : fld w 28 4 = 13#4) :
    encodeForm (.rrr (OpH.ofBits (fld w 8 3) (bit w 16)) (Op1.ofBits (fld w 0 3)) (fld w 23 5) (fld w 18 5)
      (bit w 17) (fld w 11 5) (fld w 3 5)) = w := by
  simp (disch := decide) only [encodeForm, OpH.aaa_ofBits, OpH.h_ofBits, Op1.bits_ofBits, put_of_fld_eq h, put_fld,
    putBit_bit, segment_join, Nat.reduceAdd, segment_all]

theorem encodeForm_decoded_rm {w : Word} (h : fld w 29 3 = 4#3) :
    encodeForm (.rm (bit w 28) (fld w 23 5) (fld w 18 5) (Mode.ofBits (fld w 16 2)) (fld w 0 16)) = w := by
  simp (disch := decide) only [encodeForm, Mode.bits_ofBits, put_of_fld_eq h, put_fld, putBit_bit, segment_join,
    Nat.reduceAdd, segment_all]

theorem encodeForm_decoded_br {w : Word} (h : fld w 28 4 = 14#4) :
    encodeForm (.br (bit w 1) (Cond.ofBits (fld w 25 3) (bit w 0)) (fld w 2 23)) = w := by
  simp (disch := decide) only [encodeForm, Cond.ddd_ofBits, Cond.inv_ofBits, put_of_fld_eq h, put_fld, putBit_bit,
    segment_join, Nat.reduceAdd, segment_all]

/-- The JJJJJ of a shift, from bits 7 and 6 and the reserved bits 5:3 (R102, R105). -/
theorem fld_jjjjj {w : Word} (h7 : bit w 7 = true) (h3 : fld w 3 3 = 0#3) :
    fld w 3 5 = if bit w 6 then 24#5 else 16#5 := by
  obtain ⟨h5, h4, h3⟩ := fld_three.1 h3
  rw [fld_eq_iff]
  intro i hi
  interval_cases i
  · cases bit w 6 <;> exact h3
  · cases bit w 6 <;> exact h4
  · cases bit w 6 <;> exact h5
  · cases bit w 6 <;> rfl
  · cases bit w 6 <;> exact h7

/-- An RR word is that of its fields where its reserved bits are 0. -/
theorem encodeForm_rrFields {w : Word} {op : OpJ} (h : fld w 28 4 = 12#4) (h16 : bit w 16 = false)
    (h0 : fld w 0 3 = 0#3) (hb : op.bbb = fld w 8 3) (hj : op.jjjjj = fld w 3 5) : encodeForm (rrFields w op) = w := by
  simp (disch := decide) only [encodeForm, rrFields, hb, hj, put_of_fld_eq h, put_of_fld_eq h0,
    put_zero_of_bit h16, put_fld, putBit_bit, segment_join, Nat.reduceAdd, segment_all]

theorem encodeForm_of_decodeRr {w : Word} {x : Form} (h : fld w 28 4 = 12#4) (hd : decodeRr w = .ok x) :
    encodeForm x = w := by
  unfold decodeRr at hd
  split at hd
  case _ op hop =>
    split at hd <;> cases hd
    case _ hres =>
      simp only [Bool.and_eq_true, Bool.not_eq_true', beq_iff_eq] at hres
      obtain ⟨h16, h0⟩ := hres
      exact encodeForm_rrFields h h16 h0 (BaseOp.bits_of_ofBits hop) rfl
  case _ hop =>
    split at hd
    · split at hd <;> cases hd
      case _ h7 hres =>
        simp only [Bool.and_eq_true, Bool.not_eq_true', beq_iff_eq] at hres
        obtain ⟨⟨h16, h0⟩, h3⟩ := hres
        have hb := BaseOp.ofBits_eq_none.1 hop
        have hj := fld_jjjjj h7 h3
        exact encodeForm_rrFields h h16 h0 (by rw [hb]; cases bit w 6 <;> rfl) (by rw [hj]; cases bit w 6 <;> rfl)
    · cases hd

theorem encodeForm_rrmFields {w : Word} {y : RrmForm} (h : fld w 29 3 = 5#3) (hs : y.s = bit w 28)
    (hb : y.bbb = fld w 8 3) (hj : y.jjjjj = fld w 3 5) (hy : y.y = bit w 2) (hl : y.l = bit w 1)
    (he : y.e = bit w 0) : encodeForm (rrmFields w y) = w := by
  simp (disch := decide) only [encodeForm, rrmFields, hs, hb, hj, hy, hl, he, Mode.bits_ofBits, put_of_fld_eq h,
    put_fld, putBit_bit, segment_join, Nat.reduceAdd, segment_all]

theorem encodeForm_of_decodeRrm {w : Word} {x : Form} (h : fld w 29 3 = 5#3) (hd : decodeRrm w = .ok x) :
    encodeForm x = w := by
  unfold decodeRrm at hd
  split at hd
  case _ op hop =>
    split at hd <;> cases hd
    case _ acc hacc =>
      obtain ⟨hs, hy, hl, he⟩ := RrmAcc.bits_of_ofBits hacc
      exact encodeForm_rrmFields h hs (BaseOp.bits_of_ofBits hop) rfl hy hl he
  case _ hop =>
    split at hd
    · split at hd <;> cases hd
      case _ h7 h3 =>
        have hb := BaseOp.ofBits_eq_none.1 hop
        have hj := fld_jjjjj h7 (by simpa using h3)
        exact encodeForm_rrmFields h rfl hb.symm hj.symm
          (bit_eq_fld_getLsbD (i := 2) w 0 (by decide)).symm (bit_eq_fld_getLsbD (i := 1) w 0 (by decide)).symm
          (bit_eq_fld_getLsbD (i := 0) w 0 (by decide)).symm
    · cases hd

/-- Bits 17:8 are bits 17:15 and bits 14:8. -/
theorem fld_8_10_eq {w : Word} {x : BitVec 3} {y : BitVec 7} :
    fld w 8 10 = x ++ y ↔ fld w 15 3 = x ∧ fld w 8 7 = y := by
  rw [show fld w 8 10 = fld w 15 3 ++ fld w 8 7 from (fld_append w 8 7 3).symm]
  constructor
  · intro h
    have hx := congrArg (BitVec.extractLsb' 7 3) h
    have hy := congrArg (BitVec.extractLsb' 0 7) h
    simp only [BitVec.extractLsb'_append_eq_left, BitVec.extractLsb'_append_eq_right] at hx hy
    exact ⟨hx, hy⟩
  · rintro ⟨rfl, rfl⟩
    rfl

theorem fld_15_3_eq {w : Word} : fld w 15 3 = 7#3 ↔ bit w 17 = true ∧ bit w 16 = true ∧ bit w 15 = true :=
  fld_three

/-- The pattern of PUNT (R107). -/
def puntPattern (w : Word) : Prop := fld w 8 7 = 127#7 ∧ bit w 6 = true ∧ fld w 0 3 = 7#3

/-- The pattern of SBR (R111). -/
def sbrPattern (w : Word) : Prop := fld w 8 7 = 64#7 ∧ fld w 1 2 = 0#2

theorem decodePuntSbr_punt {w : Word} (h : puntPattern w) (hasSbr : Bool) : decodePuntSbr hasSbr w =
    if fld w 18 10 = 0#10 ∧ bit w 7 = false ∧ fld w 3 3 = 0#3 then .ok .punt else .error (.reservedBits w) := by
  obtain ⟨h8, h6, h0⟩ := h
  simp [decodePuntSbr, h8, h6, h0, and_assoc]

theorem decodePuntSbr_sbr {w : Word} (h : sbrPattern w) : decodePuntSbr true w =
    if fld w 23 2 = 0#2 then .ok (.sbr (Cond.ofBits (fld w 25 3) (bit w 0)) (fld w 18 5) (fld w 3 5))
    else .error (.reservedBits w) := by
  obtain ⟨h8, h1⟩ := h
  simp [decodePuntSbr, h8, h1]

theorem decodePuntSbr_neither {w : Word} {hasSbr : Bool} (hp : ¬ puntPattern w)
    (hs : ¬ (sbrPattern w ∧ hasSbr = true)) : decodePuntSbr hasSbr w = .error (.reservedEncoding w) := by
  unfold puntPattern at hp
  unfold sbrPattern at hs
  unfold decodePuntSbr
  rw [if_neg (by simpa [and_assoc] using hp), if_neg (by simpa [and_assoc] using hs)]

theorem encodeForm_of_decodePuntSbr {hasSbr : Bool} {w : Word} {x : Form} (h : fld w 28 4 = 15#4)
    (h15 : fld w 15 3 = 7#3) (hd : decodePuntSbr hasSbr w = .ok x) : encodeForm x = w := by
  by_cases hp : puntPattern w
  · rw [decodePuntSbr_punt hp] at hd
    obtain ⟨h8, h6, h0⟩ := hp
    have h810 : fld w 8 10 = 1023#10 := fld_8_10_eq (x := 7#3) (y := 127#7) |>.2 ⟨h15, h8⟩
    split at hd <;> cases hd
    case _ hres =>
      obtain ⟨h18, h7, h3⟩ := hres
      simp (disch := decide) only [encodeForm, put_of_fld_eq h, put_of_fld_eq h18, put_of_fld_eq h810,
        put_zero_of_bit h7, put_one_of_bit h6, put_of_fld_eq h3, put_of_fld_eq h0, segment_join, Nat.reduceAdd,
        segment_all]
  · by_cases hs : sbrPattern w ∧ hasSbr = true
    · obtain ⟨hs, rfl⟩ := hs
      rw [decodePuntSbr_sbr hs] at hd
      obtain ⟨h8, h1⟩ := hs
      have h810 : fld w 8 10 = 960#10 := fld_8_10_eq (x := 7#3) (y := 64#7) |>.2 ⟨h15, h8⟩
      split at hd <;> cases hd
      case _ h23 =>
        simp (disch := decide) only [encodeForm, Cond.ddd_ofBits, Cond.inv_ofBits, put_of_fld_eq h,
          put_of_fld_eq h23, put_of_fld_eq h810, put_of_fld_eq h1, put_fld, putBit_bit, segment_join, Nat.reduceAdd,
          segment_all]
    · rw [decodePuntSbr_neither hp hs] at hd
      cases hd

theorem encodeForm_of_decodeSpecial {hasSbr : Bool} {w : Word} {x : Form} (h : fld w 28 4 = 15#4)
    (hd : decodeSpecial hasSbr w = .ok x) : encodeForm x = w := by
  unfold decodeSpecial at hd
  split at hd
  case isTrue h17 =>
    split at hd
    case isTrue h16 =>
      split at hd
      case isTrue h15 => exact encodeForm_of_decodePuntSbr h (fld_15_3_eq.2 ⟨h17, h16, h15⟩) hd
      case isFalse h15 =>
        cases hd
        have h15 : bit w 15 = false := by simpa using h15
        have hc : fld w 15 3 = 6#3 := fld_three.2 ⟨h17, h16, h15⟩
        obtain ⟨hy, hs, he⟩ := SplsAcc.bits_ofBits (bit w 14) (bit w 13) (bit w 12)
        simp (disch := decide) only [encodeForm, hy, hs, he, Mode.bits_ofBits, put_of_fld_eq h, put_of_fld_eq hc,
          put_fld, putBit_bit, segment_join, Nat.reduceAdd, segment_all]
    case isFalse h16 =>
      cases hd
      have h16 : bit w 16 = false := by simpa using h16
      have hc : fld w 16 2 = 2#2 := fld_two.2 ⟨h17, h16⟩
      simp (disch := decide) only [encodeForm, high_join21, low_join21, put_of_fld_eq h, put_of_fld_eq hc, put_fld,
        segment_join, Nat.reduceAdd, segment_all]
  case isFalse h17 =>
    cases hd
    have h17 : bit w 17 = false := by simpa using h17
    simp (disch := decide) only [encodeForm, high_join21, low_join21, put_of_fld_eq h, put_zero_of_bit h17, put_fld,
      putBit_bit, segment_join, Nat.reduceAdd, segment_all]

/-- A word whose format decodes is the word of that format. -/
theorem encodeForm_of_decodeForm {hasSbr : Bool} {w : Word} {x : Form} (hd : decodeForm hasSbr w = .ok x) :
    encodeForm x = w := by
  rcases opcode_cases w with h | h | h | h | h | h | h
  · rw [decodeForm_of_opcode_ri h] at hd
    cases hd
    exact encodeForm_decoded_ri h
  · rw [decodeForm_of_opcode_rm h] at hd
    cases hd
    exact encodeForm_decoded_rm h
  · exact encodeForm_of_decodeRrm h (decodeForm_of_opcode_rrm h hasSbr ▸ hd)
  · exact encodeForm_of_decodeRr h (decodeForm_of_opcode_rr h hasSbr ▸ hd)
  · rw [decodeForm_of_opcode_rrr h] at hd
    cases hd
    exact encodeForm_decoded_rrr h
  · rw [decodeForm_of_opcode_br h] at hd
    cases hd
    exact encodeForm_decoded_br h
  · exact encodeForm_of_decodeSpecial h (decodeForm_of_opcode_special h hasSbr ▸ hd)

/-- Settles O2: the word is the union of the fields that its format decoded. -/
theorem encodeDecode : Obligations.EncodeDecode :=
  fun _ _ _ h => encodeForm_of_decodeForm (decode_eq_ok.1 h)

/-- Settles O3: fifteen closed evaluations of the decoder. -/
theorem specWordsDecode : Obligations.SpecWordsDecode := by
  unfold Obligations.SpecWordsDecode
  decide

/-! ## Words that are no instruction (R115, R116) -/

theorem decodeRr_reservedEncoding {w : Word} :
    decodeRr w = .error (.reservedEncoding w) ↔ fld w 8 3 = 7#3 ∧ bit w 7 = false := by
  unfold decodeRr
  cases hop : BaseOp.ofBits (fld w 8 3) with
  | some op =>
    have hne : fld w 8 3 ≠ 7#3 := fun e => by rw [BaseOp.ofBits_eq_none.2 e] at hop; cases hop
    dsimp only
    split <;> simp [hne]
  | none =>
    have he := BaseOp.ofBits_eq_none.1 hop
    cases h7 : bit w 7
    · simp [he]
    · simp only [if_true]
      split <;> simp

theorem decodeRr_reservedBits {w : Word} (hne : decodeRr w ≠ .error (.reservedEncoding w)) :
    decodeRr w = .error (.reservedBits w) ↔
      bit w 16 = true ∨ fld w 0 3 ≠ 0#3 ∨ (fld w 8 3 = 7#3 ∧ fld w 3 3 ≠ 0#3) := by
  rw [ne_eq, decodeRr_reservedEncoding] at hne
  unfold decodeRr
  cases hop : BaseOp.ofBits (fld w 8 3) with
  | some op =>
    have hne : fld w 8 3 ≠ 7#3 := fun e => by rw [BaseOp.ofBits_eq_none.2 e] at hop; cases hop
    cases bit w 16 <;> by_cases h0 : fld w 0 3 = 0#3 <;> simp [hne, h0]
  | none =>
    have he := BaseOp.ofBits_eq_none.1 hop
    have h7 : bit w 7 = true := by simpa [he] using hne
    cases bit w 16 <;> by_cases h0 : fld w 0 3 = 0#3 <;> by_cases h3 : fld w 3 3 = 0#3 <;> simp [he, h7, h0, h3]

/-- YL = 11 (R263). -/
theorem fld_1_2_eq {w : Word} : fld w 1 2 = 3#2 ↔ bit w 2 = true ∧ bit w 1 = true :=
  fld_two

theorem decodeRrm_reservedEncoding {w : Word} : decodeRrm w = .error (.reservedEncoding w) ↔
    (fld w 8 3 = 7#3 ∧ bit w 7 = false) ∨ (fld w 8 3 ≠ 7#3 ∧ fld w 1 2 = 3#2) := by
  rw [fld_1_2_eq, ← RrmAcc.ofBits_eq_none (s := bit w 28) (e := bit w 0)]
  unfold decodeRrm
  cases hop : BaseOp.ofBits (fld w 8 3) with
  | some op =>
    have hne : fld w 8 3 ≠ 7#3 := fun e => by rw [BaseOp.ofBits_eq_none.2 e] at hop; cases hop
    cases RrmAcc.ofBits (bit w 28) (bit w 2) (bit w 1) (bit w 0) <;> simp [hne]
  | none =>
    have he := BaseOp.ofBits_eq_none.1 hop
    cases bit w 7 <;> by_cases h3 : fld w 3 3 = 0#3 <;> simp [he, h3]

theorem decodeRrm_reservedBits {w : Word} (hne : decodeRrm w ≠ .error (.reservedEncoding w)) :
    decodeRrm w = .error (.reservedBits w) ↔ fld w 8 3 = 7#3 ∧ fld w 3 3 ≠ 0#3 := by
  rw [ne_eq, decodeRrm_reservedEncoding] at hne
  unfold decodeRrm
  cases hop : BaseOp.ofBits (fld w 8 3) with
  | some op =>
    have hne : fld w 8 3 ≠ 7#3 := fun e => by rw [BaseOp.ofBits_eq_none.2 e] at hop; cases hop
    cases RrmAcc.ofBits (bit w 28) (bit w 2) (bit w 1) (bit w 0) <;> simp [hne]
  | none =>
    have he := BaseOp.ofBits_eq_none.1 hop
    have h7 : bit w 7 = true := by simpa [he] using hne
    by_cases h3 : fld w 3 3 = 0#3 <;> simp [he, h7, h3]

theorem decodePuntSbr_reservedEncoding {hasSbr : Bool} {w : Word} :
    decodePuntSbr hasSbr w = .error (.reservedEncoding w) ↔ ¬ puntPattern w ∧ ¬ (sbrPattern w ∧ hasSbr = true) := by
  by_cases hp : puntPattern w
  · rw [decodePuntSbr_punt hp]
    split <;> simp [hp]
  · by_cases hs : sbrPattern w ∧ hasSbr = true
    · obtain ⟨hs, rfl⟩ := hs
      rw [decodePuntSbr_sbr hs]
      split <;> simp [hs]
    · simp [decodePuntSbr_neither hp hs, hp, hs]

theorem decodePuntSbr_reservedBits {hasSbr : Bool} {w : Word}
    (hne : decodePuntSbr hasSbr w ≠ .error (.reservedEncoding w)) : decodePuntSbr hasSbr w = .error (.reservedBits w) ↔
      (fld w 8 7 = 127#7 ∧ (fld w 18 10 ≠ 0#10 ∨ bit w 7 = true ∨ fld w 3 3 ≠ 0#3)) ∨
      (fld w 8 7 = 64#7 ∧ fld w 23 2 ≠ 0#2) := by
  by_cases hp : puntPattern w
  · rw [decodePuntSbr_punt hp]
    by_cases h18 : fld w 18 10 = 0#10 <;> cases bit w 7 <;> by_cases h3 : fld w 3 3 = 0#3 <;>
      simp [hp.1, h18, h3]
  · by_cases hs : sbrPattern w ∧ hasSbr = true
    · obtain ⟨hs, rfl⟩ := hs
      rw [decodePuntSbr_sbr hs]
      by_cases h23 : fld w 23 2 = 0#2 <;> simp [hs.1, h23]
    · exact absurd (decodePuntSbr_neither hp hs) hne

/-- Opcode 1111 with bits 17:15 = 111 is PUNT or SBR, or no instruction (R114). -/
theorem decodeSpecial_puntSbr {w : Word} (h : fld w 15 3 = 7#3) (hasSbr : Bool) :
    decodeSpecial hasSbr w = decodePuntSbr hasSbr w := by
  obtain ⟨h17, h16, h15⟩ := fld_15_3_eq.1 h
  simp [decodeSpecial, h17, h16, h15]

/-- SLS, SLI and SPLS have no reserved encoding and no reserved bit. -/
theorem decodeSpecial_isOk {w : Word} (h : fld w 15 3 ≠ 7#3) (hasSbr : Bool) : ∃ x, decodeSpecial hasSbr w = .ok x := by
  rw [ne_eq, fld_15_3_eq] at h
  unfold decodeSpecial
  cases h17 : bit w 17
  · exact ⟨_, rfl⟩
  · cases h16 : bit w 16
    · exact ⟨_, rfl⟩
    · have h15 : bit w 15 = false := by simpa [h17, h16] using h
      rw [h15]
      exact ⟨_, rfl⟩

/-- Settles O4: opcode by opcode, the words that a format's decoder answers with a reserved encoding. -/
theorem reservedEncodings : Obligations.ReservedEncodings := by
  intro hasSbr w
  rw [decode_eq_error]
  rcases opcode_cases w with h | h | h | h | h | h | h
  · simp [decodeForm_of_opcode_ri h, opcode_ri h]
  · simp [decodeForm_of_opcode_rm h, opcode_rm h]
  · simp [decodeForm_of_opcode_rrm h, decodeRrm_reservedEncoding, opcode_rrm h, h]
  · simp [decodeForm_of_opcode_rr h, decodeRr_reservedEncoding, opcode_of_four h, h]
  · simp [decodeForm_of_opcode_rrr h, opcode_of_four h, h]
  · simp [decodeForm_of_opcode_br h, opcode_of_four h, h]
  · rw [decodeForm_of_opcode_special h]
    by_cases h15 : fld w 15 3 = 7#3
    · rw [decodeSpecial_puntSbr h15, decodePuntSbr_reservedEncoding]
      simp [puntPattern, sbrPattern, opcode_of_four h, h, h15, and_assoc]
    · obtain ⟨x, hx⟩ := decodeSpecial_isOk h15 hasSbr
      simp [hx, opcode_of_four h, h, h15]

/-- Settles O5: opcode by opcode, the reserved bits that a format's decoder checks. -/
theorem reservedBitsRefused : Obligations.ReservedBitsRefused := by
  intro hasSbr w hne
  rw [ne_eq, decode_eq_error] at hne
  rw [decode_eq_error, show fld w 8 10 = 1023#10 ↔ _ from fld_8_10_eq (x := 7#3) (y := 127#7),
    show fld w 8 10 = 960#10 ↔ _ from fld_8_10_eq (x := 7#3) (y := 64#7)]
  rcases opcode_cases w with h | h | h | h | h | h | h
  · simp [decodeForm_of_opcode_ri h, opcode_ri h]
  · simp [decodeForm_of_opcode_rm h, opcode_rm h]
  · rw [decodeForm_of_opcode_rrm h] at hne ⊢
    simp [decodeRrm_reservedBits hne, opcode_rrm h, h]
  · rw [decodeForm_of_opcode_rr h] at hne ⊢
    simp [decodeRr_reservedBits hne, opcode_of_four h, h]
  · simp [decodeForm_of_opcode_rrr h, opcode_of_four h, h]
  · simp [decodeForm_of_opcode_br h, opcode_of_four h, h]
  · rw [decodeForm_of_opcode_special h] at hne ⊢
    by_cases h15 : fld w 15 3 = 7#3
    · rw [decodeSpecial_puntSbr h15] at hne ⊢
      simp [decodePuntSbr_reservedBits hne, opcode_of_four h, h, h15]
    · obtain ⟨x, hx⟩ := decodeSpecial_isOk h15 hasSbr
      simp [hx, opcode_of_four h, h, h15]

end Sys2Proof
end

section
/-! PROOF. Signed overflow, the shifts, the flag update and the conditions (40_alu_operations.md, 46_br.md). -/

namespace Sys2Proof.Machine

/-! ## Signed values -/

theorem sign_eq_decide (x : Word) : sign x = decide (x.toInt < 0) := by
  rw [← BitVec.msb_eq_toInt, BitVec.msb_eq_getLsbD_last]
  rfl

theorem toInt_complement (b : Word) : (~~~b).toInt = -b.toInt - 1 := by
  have hb := b.isLt
  simp only [BitVec.toInt_eq_toNat_cond, BitVec.toNat_not]
  omega

theorem toInt_bounds (x : Word) : -2 ^ 31 ≤ x.toInt ∧ x.toInt < 2 ^ 31 :=
  ⟨BitVec.le_toInt x, BitVec.toInt_lt⟩

/-- The signed value of the adder's result is the exact signed sum, or that but for one turn of the word. -/
theorem adder_r_toInt (x y : Word) (cin : Bool) : (adder x y cin).r.toInt = x.toInt + y.toInt + cin.toNat ∨
    (adder x y cin).r.toInt = x.toInt + y.toInt + cin.toNat + 2 ^ 32 ∨
    (adder x y cin).r.toInt = x.toInt + y.toInt + cin.toNat - 2 ^ 32 := by
  have hr := adder_r_toNat x y cin
  have hx := x.isLt
  have hy := y.isLt
  have hc := Bool.toNat_le cin
  simp only [BitVec.toInt_eq_toNat_cond, hr]
  omega

/-- The sign rule of the adder (R141) is signed overflow: the exact sum has no signed word. -/
theorem adder_v_iff_toInt (x y : Word) (cin : Bool) :
    (adder x y cin).v = true ↔ (adder x y cin).r.toInt ≠ x.toInt + y.toInt + cin.toNat := by
  rw [adder_v_iff]
  simp only [sign_eq_decide, decide_eq_decide, ne_eq]
  have hr := adder_r_toInt x y cin
  have hx := toInt_bounds x
  have hy := toInt_bounds y
  have hrb := toInt_bounds (adder x y cin).r
  have hc := Bool.toNat_le cin
  omega

theorem adder_not_v_iff_toInt (a b : Word) (cin : Bool) :
    (adder a (~~~b) cin).v = true ↔ (adder a (~~~b) cin).r.toInt ≠ a.toInt - b.toInt - 1 + cin.toNat := by
  rw [adder_v_iff_toInt, toInt_complement]
  have e : a.toInt + (-b.toInt - 1) + (cin.toNat : Int) = a.toInt - b.toInt - 1 + cin.toNat := by omega
  rw [e]

theorem alu_addc (a b : Word) (c : Bool) : alu .addc a b c = some (adder a b c).out := rfl

/-- Settles O10: each of the four operations is the adder, whose V is signed overflow of the exact sum. -/
theorem overflowIsSigned : Obligations.OverflowIsSigned := by
  intro a b c o
  rw [alu_add, alu_addc, alu_sub, alu_subb]
  refine ⟨?_, ?_, ?_, ?_⟩ <;> rintro ⟨⟩
  · simpa [Sum.out] using adder_v_iff_toInt a b false
  · exact adder_v_iff_toInt a b c
  · simpa [Sum.out] using adder_not_v_iff_toInt a b true
  · exact adder_not_v_iff_toInt a b c

/-- Settles O11: the result of the adder with the old C as its carry in. -/
theorem addcRule : Obligations.AddcRule :=
  fun a b c => ⟨alu_addc a b c, adder_r_eq_add a b c⟩

/-! ## The shifts (R150 to R152) -/

theorem shift_left {a b : Word} {n : Nat} (hn : n ≤ 31) (hb : b.toInt = n) (arith : Bool) :
    shift a b arith =
      some { r := a <<< n, carry := if n = 0 then .drawn else .known (a.getLsbD (32 - n)), v := false } := by
  unfold shift
  simp only [hb]
  rw [if_neg (by omega), if_pos (by omega), Int.toNat_natCast]

theorem shift_right {a b : Word} {m : Nat} (h1 : 1 ≤ m) (hm : m ≤ 31) (hb : b.toInt = -m) (arith : Bool) :
    shift a b arith = some { r := if arith then a.sshiftRight m else a >>> m, carry := .known false, v := false } := by
  unfold shift
  simp only [hb]
  rw [if_neg (by omega), if_neg (by omega), Int.neg_neg, Int.toNat_natCast]

theorem shift_eq_none {a b : Word} {arith : Bool} : shift a b arith = none ↔ b.toInt < -31 ∨ 31 < b.toInt := by
  unfold shift
  dsimp only
  split
  case isTrue h => exact iff_of_true rfl h
  case isFalse h => split <;> exact iff_of_false nofun h

theorem alu_shift (a b : Word) (c arith : Bool) : alu (if arith then .sha else .sh) a b c = shift a b arith := by
  cases arith <;> rfl

/-- A right shift by 1 to 31 fills with zeros or with copies of bit 31. -/
theorem getLsbD_shiftRight_fill (a : Word) (m j : Nat) (arith : Bool) (hj : j < 32) :
    (if arith then a.sshiftRight m else a >>> m).getLsbD j =
      (if j + m < 32 then a.getLsbD (j + m) else arith && sign a) := by
  cases arith
  · simp only [Bool.false_eq_true, if_false, BitVec.getLsbD_ushiftRight, Bool.false_and, Nat.add_comm m j]
    split
    · rfl
    · exact BitVec.getLsbD_of_ge _ _ (by omega)
  · simp only [if_true, BitVec.getLsbD_sshiftRight, Bool.true_and, Nat.add_comm m j, BitVec.msb_eq_getLsbD_last]
    rw [decide_eq_false (Nat.not_le.2 hj)]
    rfl

/-- Settles O13: a left shift, a right shift, or an amount out of range. -/
theorem shiftRule : Obligations.ShiftRule := by
  intro a b c arith
  simp only [alu_shift]
  refine ⟨fun n hn hb => ⟨_, shift_left hn hb arith, rfl, fun j hj => ?_, rfl⟩,
    fun m h1 hm hb => ⟨_, shift_right h1 hm hb arith, rfl, fun j hj => ?_, rfl⟩, shift_eq_none.2⟩
  · rw [BitVec.getLsbD_shiftLeft, decide_eq_true hj, Bool.true_and, ← decide_not]
    simp only [Nat.not_lt]
  · exact getLsbD_shiftRight_fill a m j arith hj

/-- Settles O14: only the two shifts can answer nothing, by the range of their amount. -/
theorem aluStopsOnlyOnShiftRange : Obligations.AluStopsOnlyOnShiftRange := by
  intro op a b c
  cases op
  case sh => simpa [alu] using shift_eq_none (a := a) (b := b) (arith := false)
  case sha => simpa [alu] using shift_eq_none (a := a) (b := b) (arith := true)
  all_goals simp [alu]

/-! ## The flags (R160, R161) -/

/-- Settles O15: each flag of `setflags`, C by the kind of carry and the format. -/
theorem flagUpdate : Obligations.FlagUpdate := by
  intro fmt o s
  refine ⟨beq_iff_eq, rfl, rfl, fun b h => ?_, fun h => ?_, fun h hf => ?_, fun h hf => ?_, fun h hf hp => ?_,
    fun h hf hp => ?_⟩ <;> simp [setflags, carryAfter, logicC, *]

/-- Settles O17: each condition on every value of the flags. -/
theorem conditionTable : Obligations.ConditionTable := by
  rintro ⟨z, n, v, c⟩
  revert z n v c
  decide

theorem sub_eq_zero_iff {a b : Word} : a - b = 0#32 ↔ a = b := by
  constructor
  · intro h
    have := BitVec.sub_add_cancel a b
    rw [h, BitVec.zero_add] at this
    exact this.symm
  · rintro rfl
    exact BitVec.sub_self _

/-- N and V agree exactly where the signed difference is not negative. -/
theorem sign_eq_overflow_iff (a b : Word) :
    sign (adder a (~~~b) true).r = (adder a (~~~b) true).v ↔ b.toInt ≤ a.toInt := by
  have hv := adder_not_v_iff_toInt a b true
  have hr := adder_r_toInt a (~~~b) true
  rw [toInt_complement] at hr
  have ha := toInt_bounds a
  have hb := toInt_bounds b
  have hrb := toInt_bounds (adder a (~~~b) true).r
  rw [sign_eq_decide, Bool.eq_iff_iff, hv, decide_eq_true_iff]
  simp only [Bool.toNat_true] at hr ⊢
  omega

/-- Settles O16: the condition table, read with the flags that a subtraction leaves: Z is equality, C the unsigned
and N = V the signed comparison. -/
theorem conditionsCompare : Obligations.ConditionsCompare := by
  intro a b c o fmt s ho
  rw [alu_sub] at ho
  obtain rfl := Option.some.inj ho
  obtain ⟨-, -, hi, ls, cc, cs, ne, eq, -, vs, -, mi, ge, lt, gt, le⟩ :=
    conditionTable (setflags fmt (adder a (~~~b) true).out s)
  have hz : (setflags fmt (adder a (~~~b) true).out s).z = true ↔ a = b := by
    rw [← sub_eq_zero_iff, ← adder_not_true_r]
    exact beq_iff_eq
  have hc : (setflags fmt (adder a (~~~b) true).out s).c = true ↔ b.toNat ≤ a.toNat :=
    adder_not_true_cout_iff a b
  have hge : (setflags fmt (adder a (~~~b) true).out s).n = (setflags fmt (adder a (~~~b) true).out s).v ↔
      b.toInt ≤ a.toInt := sign_eq_overflow_iff a b
  have hnz : (setflags fmt (adder a (~~~b) true).out s).z = false ↔ a ≠ b := by
    rw [← Bool.not_eq_true, hz]
  have hnc : (setflags fmt (adder a (~~~b) true).out s).c = false ↔ a.toNat < b.toNat := by
    rw [← Bool.not_eq_true, hc, Nat.not_le]
  have hnat : a = b ↔ a.toNat = b.toNat := BitVec.toNat_inj.symm
  have hint : a = b ↔ a.toInt = b.toInt := BitVec.toInt_inj.symm
  refine ⟨eq.trans hz, ne.trans hnz, hi.trans ?_, ls.trans ?_, cs.trans hc, cc.trans hnc, ge.trans hge,
    lt.trans ?_, gt.trans ?_, le.trans ?_, vs.trans ?_, mi.trans ?_⟩
  · rw [hc, hnz, ne_eq, hnat]; omega
  · rw [hnc, hz, hnat]; omega
  · rw [ne_eq, hge, Int.not_le]
  · rw [hge, hnz, ne_eq, hint]; omega
  · rw [hz, ne_eq, hge, hint]; omega
  · simpa [setflags, Sum.out] using adder_not_v_iff_toInt a b true
  · simp [setflags, sign_eq_decide]

end Sys2Proof.Machine
end

section
/-! PROOF. What every step keeps and what it may change (10_state.md, 20_memory.md): each claim about all 210
instructions from `exec_next`, by which a step ends in the effects of its format, and `effects_spec`, which says what
those effects are; PUNT apart. -/

namespace Sys2Proof.Machine

/-! ## The fetch (20_memory.md R74, R75) -/

theorem fetch_ok {s : State} (hv : memValid s.params s.cia 4 = true) (hs : anyStored s.stored s.cia 4 = false) :
    fetch s = .ok (Memory.readBytes s.mem s.cia 4) := by
  simp [fetch, hv, hs]

theorem step_eq_exec {s : State} {i : Instr} (h : fetchDecode s = .ok i) : step s = exec i s := by
  simp only [step, h]

theorem step_eq_refused {s : State} {e : Refusal} (h : fetchDecode s = .error e) : step s = .refused e := by
  simp only [step, h, outcome_error]

/-- A step with a next state is that of some instruction. -/
theorem step_eq_next {s t : State} (h : step s = .next t) : ∃ i, exec i s = .next t := by
  cases hf : fetchDecode s with
  | ok i => exact ⟨i, step_eq_exec hf ▸ h⟩
  | error e => rw [step_eq_refused hf] at h; cases h

/-- Settles O6: the fetch answers the bytes, which decode to the instruction. -/
theorem stepRunsDecoded : Obligations.StepRunsDecoded := by
  intro s i hv hs hd
  exact step_eq_exec (by simp [fetchDecode, fetch_ok hv hs, hd])

/-- Settles O7: the three checks of the fetch, in their order. -/
theorem fetchStops : Obligations.FetchStops := by
  intro s
  refine ⟨fun hv => ?_, fun hv hs => ?_, fun hv hs e hd => ?_⟩ <;> apply step_eq_refused
  · simp [fetchDecode, fetch, hv]
  · simp [fetchDecode, fetch, hv, hs]
  · simp [fetchDecode, fetch_ok hv hs, hd]

/-! ## PUNT (47_punt.md R330 to R332) -/

theorem puntMeaning_next {s t : State} : puntMeaning s = .next t ↔
    s.lp = none ∧ s.js = false ∧ t = afterSwitch s (Config.ctxSwitch s) := by
  unfold puntMeaning
  cases hl : s.lp <;> cases hj : s.js <;> simp [eq_comm]

/-- Settles O41: outside the shadows the switch of `afterSwitch`, field by field; inside one the refusal. -/
theorem puntResult : Obligations.PuntResult := by
  intro s
  refine ⟨fun hl hj => ⟨_, puntMeaning_next.2 ⟨hl, hj, rfl⟩, rfl, rfl, wordAddr_aligned _, wordAddr_aligned _, rfl, rfl,
    Memory.wf_canon _, fun _ ha => mem_addAll ha⟩, fun h => ?_⟩
  have hshadow : (s.lp.isSome || s.js) = true := by simpa using h
  show puntMeaning s = _
  simp [puntMeaning, hshadow]

/-! ## The end of a step, field by field -/

theorem aligned4_iff {a : Word} : aligned4 a = true ↔ a.toNat % 4 = 0 := beq_iff_eq

theorem aligned4_add {a b : Word} (ha : aligned4 a = true) (hb : aligned4 b = true) : aligned4 (a + b) = true := by
  rw [aligned4_iff] at *
  rw [BitVec.toNat_add]
  omega

theorem memAfter_wf {st : Option Store} {s : State} (h : Memory.wf s.mem = true) :
    Memory.wf (memAfter st s) = true := by
  cases st with
  | none => exact h
  | some x => exact Memory.wf_writeBytes h _ _

theorem storedAfter_wf {st : Option Store} {s : State} (h : storedWf s.stored = true) :
    storedWf (storedAfter st s) = true := by
  cases st with
  | none => exact h
  | some x => exact storedWf_addStored h _ _

/-- The context switch puts every part of the invariant in place. -/
theorem inv_afterSwitch {s : State} (h : Inv s) (raw : State) : Inv (afterSwitch s raw) where
  cia := wordAddr_aligned _
  nia := wordAddr_aligned _
  mem := Memory.wf_canon _
  stored := storedWf_addAll h.stored _

/-- Effects whose jump passed its check keep the invariant. -/
theorem inv_settled {i : Instr} {s : State} {e : Effects} (h : Inv s) (hj : ∀ u, e.jump = some u → aligned4 u = true) :
    Inv (settled i s (applyEffects e s)) := by
  refine ⟨?_, ?_, ?_, ?_⟩ <;> unfold settled
  · simpa using h.nia
  · rw [afterAccess_nia, applyEffects_nia]
    cases hu : e.jump with
    | none => exact aligned4_add h.nia rfl
    | some u => exact hj u hu
  · simpa using memAfter_wf h.mem
  · simpa using storedAfter_wf h.stored

/-- Settles O49: PUNT by its switch, every other instruction by the effects of its format. -/
theorem invKept : Obligations.InvKept := by
  intro s t hinv hstep
  obtain ⟨i, hi⟩ := step_eq_next hstep
  cases hp : isPunt i with
  | true =>
    obtain ⟨-, -, rfl⟩ := puntMeaning_next.1 (exec_punt hp s ▸ hi)
    exact inv_afterSwitch hinv _
  | false =>
    obtain ⟨e, -, -, hj, rfl⟩ := (exec_next hp).1 hi
    exact inv_settled hinv fun u hu => (hj u hu).1

/-- Settles O50: the reset state's own values. -/
theorem resetState : Obligations.ResetState :=
  ⟨⟨rfl, rfl, Memory.wf_reset, storedWf_reset⟩, rfl, rfl, rfl, rfl⟩

/-- Settles O51: the advance of `applyEffects`; a jump passed the check of the shadow. -/
theorem sequencing : Obligations.Sequencing := by
  intro i s t hp h
  obtain ⟨e, -, -, hj, rfl⟩ := (exec_next hp).1 h
  unfold settled
  simp only [afterAccess_cia, afterAccess_nia, afterAccess_js, applyEffects_cia, applyEffects_nia, applyEffects_js]
  cases hu : e.jump with
  | none => simp
  | some u => simpa using (hj u hu).2

/-! ## Memory and W -/

/-- A store changes the bytes of its access alone. -/
theorem readByte_memAfter {st : Option Store} {s : State} {x : Nat}
    (h : ∀ y, st = some y → ∀ j, j < y.bytes.length → x ≠ byteAddr y.addr j) :
    Memory.readByte (memAfter st s) x = Memory.readByte s.mem x := by
  cases st with
  | none => rfl
  | some y => exact Memory.readByte_writeBytes_other _ _ _ (h y rfl)

theorem mem_storedAfter {st : Option Store} {s : State} {x : Nat} : x ∈ storedAfter st s ↔
    x ∈ s.stored ∨ ∃ y, st = some y ∧ ∃ j, j < y.bytes.length ∧ x = byteAddr y.addr j := by
  cases st with
  | none => simp [storedAfter]
  | some y => simp [storedAfter, mem_addStored, byteAddr]

/-- Settles O56: without a store the memory is that of before; a store is that of `dataAccess`. -/
theorem memoryKept : Obligations.MemoryKept := by
  intro i s t hp h
  obtain ⟨e, he, -, -, rfl⟩ := (exec_next hp).1 h
  have hspec := effects_spec hp he
  simp only [settled, afterAccess_mem, afterAccess_stored, applyEffects_mem, applyEffects_stored]
  refine ⟨fun hs => ?_, fun hs => ?_⟩
  · rw [hspec.plain hs]
    exact ⟨rfl, fun _ => rfl⟩
  · obtain ⟨ea, n, st, hd, hst, rfl, rfl⟩ := hspec.store hs
    refine ⟨_, _, hd, fun x hx => readByte_memAfter ?_⟩
    rintro y hy
    obtain rfl : st = y := Option.some.inj (hst.symm.trans hy)
    exact hx

/-- Settles O57: W only takes addresses in, and those of every byte that a store writes. -/
theorem storedAddressesGrow : Obligations.StoredAddressesGrow := by
  intro i s t h
  cases hp : isPunt i with
  | true =>
    obtain ⟨-, -, rfl⟩ := puntMeaning_next.1 (exec_punt hp s ▸ h)
    exact ⟨fun a ha => mem_addAll ha, nofun⟩
  | false =>
    obtain ⟨e, -, -, -, rfl⟩ := (exec_next hp).1 h
    simp only [settled, afterAccess_mem, afterAccess_stored, applyEffects_mem, applyEffects_stored]
    refine ⟨fun a ha => mem_storedAfter.2 (.inl ha), fun _ x hx => mem_storedAfter.2 (.inr ?_)⟩
    by_contra hno
    exact hx (readByte_memAfter fun y hy j hj e => hno ⟨y, hy, j, hj, e⟩)

/-! ## Contexts and parameters -/

/-- Settles O58: PUNT toggles the context, the effects of every other instruction leave it. -/
theorem contextOnlyByPunt : Obligations.ContextOnlyByPunt := by
  intro i s t h
  cases hp : isPunt i with
  | true =>
    obtain ⟨-, -, rfl⟩ := puntMeaning_next.1 (exec_punt hp s ▸ h)
    exact ⟨rfl, fun _ => rfl, nofun⟩
  | false =>
    obtain ⟨e, -, -, -, rfl⟩ := (exec_next hp).1 h
    simp [settled]

theorem afterAccess_local (rs : List Reg) (s t : State) (c : Bool) (a : List Word) (x : Word) :
    afterAccess rs { s with ctx := c, alt := a, isr := x } { t with ctx := c, alt := a, isr := x } =
      { afterAccess rs s t with ctx := c, alt := a, isr := x } := by
  have ht : touches { s with ctx := c, alt := a, isr := x } rs = touches s rs := rfl
  unfold afterAccess
  rw [ht]
  split <;> rfl

/-- Settles O59: neither the effects nor the end of a step depend on the contexts or on register 31. -/
theorem contextNotRead : Obligations.ContextNotRead := by
  intro i c a x s t hp h
  obtain ⟨e, he, hc, hj, rfl⟩ := (exec_next hp).1 h
  have he' : formEffects i.form { s with ctx := c, alt := a, isr := x } = .ok e :=
    (formEffects_local i.form s s.lp s.js c s.nia x a s.stored).trans he
  refine (exec_next hp).2 ⟨e, he', hc, hj, ?_⟩
  unfold settled
  rw [applyEffects_local e s c a x]
  exact (afterAccess_local (accessed i) s (applyEffects e s) c a x).symm

/-! ## Registers and flags -/

/-- What the value of a register depends on. -/
theorem readReg_congr {s t : State} {g : Gpr} (hp : t.params = s.params) (hr : t.regs.get g = s.regs.get g)
    (hb : behaviour s.params g ≠ some .sideEffect) (hf : flagsIn s.params g = none ∨ t.flags = s.flags) :
    readReg t g = readReg s g := by
  unfold readReg
  rw [hp, hr]
  cases hbeh : behaviour s.params g with
  | some b =>
    cases b with
    | hardwired v => rfl
    | sideEffect => exact absurd hbeh hb
  | none => rcases hf with hf | hf <;> rw [hf]

/-- The write at time 2 is of the register that `writeReg?` names. -/
theorem EffectsOf.write_reg {i : Instr} {s : State} {e : Effects} (h : EffectsOf i s e) {g : Gpr} {v : Word}
    (hw : e.write = some (g, v)) : writeReg? i = some g := by
  rw [← h.write, hw]
  rfl

/-- Settles O54: a register that is neither written nor landed on keeps its storage. -/
theorem registersKept : Obligations.RegistersKept := by
  intro i s t hp h
  obtain ⟨e, he, -, -, rfl⟩ := (exec_next hp).1 h
  have hspec := effects_spec hp he
  refine ⟨by simp [settled], fun hq r hw hl => ?_⟩
  rw [settled_of_quiet hq]
  have hget : (applyEffects e s).regs.get r = s.regs.get r := by
    rw [applyEffects_regs, writeOut_get, landed_get hl]
    rintro g v hgv rfl
    exact hw (hspec.write_reg hgv)
  exact ⟨hget, fun hb hf => readReg_congr rfl hget hb hf⟩

/-- Settles O55: without F = 1 there is no flag update and no draw. -/
theorem flagsKept : Obligations.FlagsKept := by
  intro i s t hp hf hq h
  obtain ⟨e, he, -, -, rfl⟩ := (exec_next hp).1 h
  have hspec := effects_spec hp he
  obtain ⟨hflags, hdrew⟩ := hspec.flags hf
  rw [settled_of_quiet hq]
  refine ⟨by simp [hdrew], fun hw hl => ?_⟩
  rw [applyEffects_flags, hflags, Option.getD_none, writeOut_flags, landed_flags hl]
  intro g v hgv
  rw [landed_params]
  exact hw g (hspec.write_reg hgv)

/-! ## The late value (10_state.md R36) -/

/-- Settles O52: the landing comes before the write at time 2, which is of another register, and before the flag
update, which does not meet the flags' register. -/
theorem lateValueLands : Obligations.LateValueLands := by
  intro i s t hp h
  obtain ⟨e, he, hc, -, rfl⟩ := (exec_next hp).1 h
  have hspec := effects_spec hp he
  obtain ⟨hmeet, hflag⟩ := collision_eq_none.1 hc
  refine ⟨fun hq l hl hb => ?_, by simpa [settled] using hspec.late⟩
  rw [settled_of_quiet hq]
  have hend : readReg (applyEffects e s) l.reg = readReg (writeOut e.write (landed s)) l.reg := by
    apply readReg_congr
    · simp
    · rfl
    · simp [hb]
    · cases hef : e.flags with
      | none => exact .inr (by simp [hef])
      | some f => exact .inl (by simpa using (flagMeeting_eq_none.1 hflag (by simp [hef])).2 l hl)
  have hother : readReg (writeOut e.write (landed s)) l.reg = readReg (landed s) l.reg :=
    readReg_writeOut fun g v hgv => meeting_eq_none.1 hmeet g v l hgv hl
  have hland : landed s = setReg l.reg l.val s := by simp [landed, hl]
  rw [hend, hother, hland, readReg_setReg hb]

/-- The new state, seen from that of a step that does nothing of its own: the write at time 2 over the landing, then
the flag update, the store, the late value and the jump. -/
theorem applyEffects_eq (e : Effects) (s : State) : applyEffects e s = { writeOut e.write (fallThrough s) with
    flags := e.flags.getD (writeOut e.write (fallThrough s)).flags
    mem := memAfter e.store s
    stored := storedAfter e.store s
    lp := e.late
    nia := e.jump.getD (s.nia + 4#32)
    js := e.jump.isSome
    draws := if e.drew then s.draws + 1 else s.draws } := by
  obtain ⟨w, f, st, l, j, d⟩ := e
  rcases w with _ | ⟨g, v⟩
  · rfl
  · simp only [writeOut, setReg_fallThrough]
    rfl

/-- The registers after a write depend on the registers and the parameters alone, the flags on the flags too. -/
theorem setReg_congr {s u : State} (hp : u.params = s.params) (hr : u.regs = s.regs) (g : Gpr) (v : Word) :
    (setReg g v u).regs = (setReg g v s).regs ∧
      (u.flags = s.flags → (setReg g v u).flags = (setReg g v s).flags) := by
  unfold setReg
  rw [hp, hr]
  rcases behaviour s.params g with _ | ⟨_ | _⟩
  · cases flagsIn s.params g <;> simp
  · simp [hr]
  · simp

theorem writeOut_congr {s u : State} (hp : u.params = s.params) (hr : u.regs = s.regs) (hf : u.flags = s.flags)
    (w : Option (Gpr × Word)) :
    (writeOut w u).regs = (writeOut w s).regs ∧ (writeOut w u).flags = (writeOut w s).flags := by
  rcases w with _ | ⟨g, v⟩
  · exact ⟨hr, hf⟩
  · obtain ⟨hregs, hflags⟩ := setReg_congr hp hr g v
    exact ⟨hregs, hflags hf⟩

theorem writeOut_setReg {w : Option (Gpr × Word)} {r : Gpr} (h : ∀ g v, w = some (g, v) → r ≠ g) (x : Word)
    (s : State) : writeOut w (setReg r x s) = setReg r x (writeOut w s) := by
  rcases w with _ | ⟨g, v⟩
  · rfl
  · exact setReg_comm (h g v rfl) v x s

/-- The state with this value about to land on this register. -/
def withLate (r : Gpr) (v : Word) (s : State) : State := { s with lp := some { reg := r, val := v } }

/-- After another late value the registers and the flags before the flag update differ by the write of it, since
nothing else writes its register. -/
theorem writeOut_landed_late {o : Option (Gpr × Word)} {r : Gpr} (h : ∀ g x, o = some (g, x) → r ≠ g) (v w : Word)
    (s : State) :
    (setReg r w (writeOut o (landed (withLate r v s)))).regs = (writeOut o (landed (withLate r w s))).regs ∧
      (setReg r w (writeOut o (landed (withLate r v s)))).flags = (writeOut o (landed (withLate r w s))).flags := by
  have hv : setReg r w (writeOut o (landed (withLate r v s))) = writeOut o (setReg r w (withLate r v s)) := by
    rw [show landed (withLate r v s) = setReg r v (withLate r v s) from rfl, ← writeOut_setReg h, setReg_setReg]
  have hw : landed (withLate r w s) = setReg r w (withLate r w s) := rfl
  obtain ⟨hregs, hflags⟩ := setReg_congr (s := withLate r w s) (u := withLate r v s) rfl rfl r w
  rw [hv, hw]
  exact writeOut_congr (by simp [withLate]) hregs (hflags rfl) o

/-- The new state after another late value: the write of its register comes last, since no other write and no flag
update meets it. -/
theorem applyEffects_late {e : Effects} {s : State} {r : Gpr} {v : Word} (hc : collision e (withLate r v s) = none)
    (w : Word) : applyEffects e (withLate r w s) = setReg r w (applyEffects e (withLate r v s)) := by
  obtain ⟨hmeet, hflag⟩ := collision_eq_none.1 hc
  have hother : ∀ g x, e.write = some (g, x) → r ≠ g := fun g x hgx => meeting_eq_none.1 hmeet g x _ hgx rfl
  have hfree : e.flags.isSome = true → flagsIn s.params r = none := fun hs =>
    (flagMeeting_eq_none.1 hflag hs).2 _ rfl
  obtain ⟨hregs, hflags⟩ := writeOut_landed_late hother v w s
  obtain ⟨hr, hf⟩ := setReg_congr (u := applyEffects e (withLate r v s))
    (s := writeOut e.write (landed (withLate r v s))) (by simp) rfl r w
  have hflags' : (setReg r w (applyEffects e (withLate r v s))).flags = (applyEffects e (withLate r w s)).flags := by
    cases hef : e.flags with
    | none => rw [hf (by simp [hef]), hflags]; simp [hef]
    | some f => rw [setReg_flags (s := applyEffects e (withLate r v s)) (hfree (by simp [hef]))]; simp [hef]
  rw [setReg_eq r w (applyEffects e (withLate r v s)), hflags', hr, hregs]
  rfl

/-- The collision is on registers, whatever value is about to land. -/
theorem collision_withLate (e : Effects) (r : Gpr) (v w : Word) (s : State) :
    collision e (withLate r w s) = collision e (withLate r v s) := by
  unfold collision meeting
  rcases e.write with _ | ⟨g, x⟩ <;> rfl

/-- Settles O53: the effects do not depend on the slot, and the landing is a write that nothing else meets. -/
theorem lateValueInvisible : Obligations.LateValueInvisible := by
  intro i r v w s t hq h
  cases hp : isPunt i with
  | true =>
    obtain ⟨hl, -⟩ := puntMeaning_next.1 (exec_punt hp _ ▸ h)
    cases hl
  | false =>
    obtain ⟨e, he, hc, hj, rfl⟩ := (exec_next hp).1 h
    refine (exec_next hp).2 ⟨e, he, (collision_withLate e r v w s).trans hc, hj, ?_⟩
    have hq' : quiet i (withLate r w s) := hq
    show setReg r w (settled i (withLate r v s) (applyEffects e (withLate r v s))) =
      settled i (withLate r w s) (applyEffects e (withLate r w s))
    rw [settled_of_quiet (s := withLate r v s) hq, settled_of_quiet hq']
    exact (applyEffects_late hc w).symm

/-! ## The two open parameters -/

/-- A flag update that meets the write or the landing of the flags' register has a collision there. -/
theorem collision_flags {e : Effects} {s : State} {g : Gpr} {v : Word} (hg : flagsIn s.params g ≠ none)
    (hf : e.flags ≠ none) (h : (e.write = some (g, v) ∧ s.lp = none) ∨
      (e.write = none ∧ s.lp = some { reg := g, val := v })) : collision e s = some g := by
  have hg' : (flagsIn s.params g).isSome = true := Option.isSome_iff_ne_none.2 hg
  have hf' : e.flags.isSome = true := Option.isSome_iff_ne_none.2 hf
  rcases h with ⟨hw, hl⟩ | ⟨hw, hl⟩ <;> simp [collision, meeting, flagMeeting, hw, hl, hf', hg']

/-- Settles O60: the laws of `readReg`, `setReg`, the collision and `afterAccess`. -/
theorem specialRegisters : Obligations.SpecialRegisters := by
  intro s t g v
  refine ⟨fun w hw => ?_, readReg_setReg, fun r hr => readReg_setReg_other hr v s, setReg_flags, fun a ha => ?_,
    fun rs e hg hf h => runEffects_collision (collision_flags hg hf h), fun rs => ?_,
    fun rs hd => afterAccess_quiet (touches_default hd rs) t⟩
  · obtain ⟨hread, hset⟩ := hardwired_spec hw
    exact ⟨hread, hset v⟩
  · obtain ⟨-, -, hdist, hb⟩ := flagsIn_eq_some ha
    simp [readReg, setReg, hb, ha, aliasFlags_aliasInsert hdist]
  · unfold afterAccess
    split <;> rfl

end Sys2Proof.Machine
end

section
/-! PROOF. Operands: register numbers, branch targets, bytes and values, extensions, constants and addressing modes
(10_state.md, 20_memory.md, 30_encoding.md R112, 44_rm.md R241, 46_br.md R291). -/

namespace Sys2Proof.Machine

/-! ## Register numbers (10_state.md R20 to R24) -/

theorem gprNumber_of_gpr? {r : Reg} {g : Gpr} (h : gpr? r = some g) : gprNumber g = r := by
  revert r g; decide

/-- A register of which the open parameters say nothing reads as its storage. -/
theorem readReg_plain {s : State} {g : Gpr} (hb : behaviour s.params g = none) (hf : flagsIn s.params g = none) :
    readReg s g = s.regs.get g := by
  simp [readReg, hb, hf]

/-- Settles O18: the numbers by the two maps between them and the storage, the reads by `source`. -/
theorem registerNumbers : Obligations.RegisterNumbers :=
  ⟨gpr?_gprNumber, fun _ _ => gprNumber_of_gpr?, fun _ => gpr?_eq_none,
    fun _ _ _ _ h => ⟨source_plain h, readReg_plain⟩, fun _ _ => rfl, source_isr⟩

/-! ## Branch targets (R291) -/

theorem toNat_append_zeros {n : Nat} (x : BitVec n) : (x ++ 0#2).toNat = 4 * x.toNat := by
  rw [BitVec.toNat_append, BitVec.toNat_ofNat, Nat.zero_mod, Nat.or_zero, Nat.shiftLeft_eq, Nat.mul_comm]

theorem absTarget_toNat (k : BitVec 23) : (absTarget k).toNat = 4 * k.toNat := by
  have hk := k.isLt
  rw [absTarget, BitVec.toNat_setWidth, toNat_append_zeros]
  omega

theorem signExtend_append_zeros (k : BitVec 23) : (k ++ 0#2).signExtend 32 = BitVec.ofInt 32 (4 * k.toInt) := by
  have hk := k.isLt
  have h25 : (k ++ 0#2).toInt = 4 * k.toInt := by
    simp only [BitVec.toInt_eq_toNat_cond, toNat_append_zeros]
    omega
  rw [← h25]
  rfl

theorem pcReadOffset_aligned (p : Params) : aligned4 p.pcReadOffset = true := by
  rw [aligned4_iff, Params.pcReadOffset, toNat_append_zeros]
  exact Nat.mul_mod_right 4 _

theorem ofInt_four_mul_aligned (n : Int) : aligned4 (BitVec.ofInt 32 (4 * n)) = true := by
  rw [aligned4_iff, BitVec.toNat_ofInt]
  omega

theorem relTarget_eq (s : State) (k : BitVec 23) :
    relTarget s k = s.cia + s.params.pcReadOffset + BitVec.ofInt 32 (4 * k.toInt) := by
  rw [relTarget, pcRead, signExtend_append_zeros]

theorem relTarget_aligned {s : State} (h : aligned4 s.cia = true) (k : BitVec 23) :
    aligned4 (relTarget s k) = true := by
  rw [relTarget_eq]
  exact aligned4_add (aligned4_add h (pcReadOffset_aligned _)) (ofInt_four_mul_aligned _)

/-- Settles O19: the constant moved up two places is four times the constant, unsigned or signed. -/
theorem branchTargets : Obligations.BranchTargets :=
  fun k s => ⟨absTarget_toNat k, absTarget_aligned k, relTarget_eq s k, fun h => relTarget_aligned h k⟩

/-! ## Bytes and values (20_memory.md R64) -/

theorem byteAddr_zero (a : Word) : byteAddr a 0 = a.toNat := by
  rw [byteAddr, BitVec.add_zero]

theorem byteAddr_succ (a : Word) (j : Nat) : byteAddr a (j + 1) = byteAddr (a + 1#32) j := by
  rw [byteAddr, byteAddr, word_add_ofNat_succ]

/-- The bytes from `a` are those at `byteAddr a 0`, `byteAddr a 1`, … -/
theorem readBytes_eq_map (m : Memory) (a : Word) (n : Nat) :
    Memory.readBytes m a n = (List.range n).map fun j => Memory.readByte m (byteAddr a j) := by
  induction n generalizing a with
  | zero => rfl
  | succ n ih =>
    rw [Memory.readBytes, ih, List.range_succ_eq_map, List.map_cons, List.map_map, byteAddr_zero]
    simp only [Function.comp_def, Nat.succ_eq_add_one, byteAddr_succ]

theorem leValue_nil : (leValue []).toNat = 0 := rfl

/-- Settles O20: the list of the bytes, weighted from its start or, reversed, from its end. -/
theorem byteOrder : Obligations.ByteOrder := by
  rintro s a b0 b1 b2 b3 rfl rfl rfl rfl
  have hlt (j : Nat) := (Memory.readByte s.mem (byteAddr a j)).isLt
  have h0 := hlt 0
  have h1 := hlt 1
  have h2 := hlt 2
  have h3 := hlt 3
  refine ⟨fun he => ⟨?_, ?_, ?_⟩, fun he => ⟨?_, ?_, ?_⟩⟩ <;>
    simp only [valueAt, valueOf, he, readBytes_eq_map, show List.range 4 = [0, 1, 2, 3] from rfl,
      show List.range 2 = [0, 1] from rfl, show List.range 1 = [0] from rfl, List.map_cons, List.map_nil,
      List.reverse_cons, List.reverse_nil, List.nil_append, List.cons_append, leValue_cons, leValue_nil] <;>
    omega

/-- The lowest `n` bytes of a word are the word modulo `2^(8n)`. -/
theorem leValue_leBytes {n : Nat} (hn : n ≤ 4) (v : Word) : (leValue (leBytes n v)).toNat = v.toNat % 2 ^ (8 * n) := by
  induction n generalizing v with
  | zero => simp [leBytes, leValue, Nat.mod_one]
  | succ n ih =>
    have hpow : 2 ^ (8 * n) ≤ 2 ^ 24 := Nat.pow_le_pow_right (by decide) (by omega)
    have hrest : v.toNat / 2 ^ 8 % 2 ^ (8 * n) % 2 ^ 24 = v.toNat / 2 ^ 8 % 2 ^ (8 * n) :=
      Nat.mod_eq_of_lt (lt_of_lt_of_le (Nat.mod_lt _ (Nat.two_pow_pos _)) hpow)
    rw [leBytes, leValue_cons, ih (by omega), BitVec.toNat_ushiftRight, BitVec.toNat_setWidth,
      Nat.shiftRight_eq_div_pow, hrest, show 8 * (n + 1) = 8 + 8 * n by omega, Nat.pow_add, Nat.mod_mul, Nat.mul_comm]

theorem valueOf_bytesOf {n : Nat} (hn : n ≤ 4) (en : Endian) (v : Word) :
    (valueOf en (bytesOf en n v)).toNat = v.toNat % 2 ^ (8 * n) := by
  cases en
  · rw [valueOf, bytesOf, List.reverse_reverse, leValue_leBytes hn]
  · exact leValue_leBytes hn v

/-- Settles O21: four, two and one bytes of a word are the word modulo 2^32, 2^16 and 2^8. -/
theorem bytesReadBack : Obligations.BytesReadBack := by
  intro en v
  have hv := v.isLt
  refine ⟨?_, ?_, ?_⟩ <;> apply BitVec.eq_of_toNat_eq <;> rw [valueOf_bytesOf (by decide)]
  · omega
  · simp only [BitVec.toNat_setWidth]; omega
  · simp only [BitVec.toNat_setWidth]; omega

/-- Settles O22: a narrowed value is extended by zeros or by its sign. -/
theorem partWordExtension : Obligations.PartWordExtension := by
  intro v
  have hv := v.isLt
  refine ⟨?_, BitVec.toInt_signExtend_of_le (by decide), ?_, BitVec.toInt_signExtend_of_le (by decide),
    fun _ => rfl⟩ <;> simp only [extend, BitVec.toNat_setWidth] <;> omega

/-! ## Immediate operands (R112) -/

theorem toNat_halves (x y : BitVec 16) : (x ++ y : Word).toNat = x.toNat * 2 ^ 16 + y.toNat := by
  rw [BitVec.toNat_append, ← Nat.shiftLeft_add_eq_or_of_lt y.isLt, Nat.shiftLeft_eq]

theorem riConst_plain {op : BaseOp} (h : op ≠ .and) (up : Bool) (k : BitVec 16) :
    riConst (.plain op up) k = if up then k ++ 0x0000#16 else 0x0000#16 ++ k := by
  cases op
  case and => exact absurd rfl h
  all_goals rfl

/-- Settles O23: a constant stands beside a half of zeros or of ones, or is extended by its sign. -/
theorem riConstants : Obligations.RiConstants := by
  refine ⟨fun op k h => ?_, fun k => ⟨?_, ?_, BitVec.toInt_signExtend_of_le (by decide),
    BitVec.toInt_signExtend_of_le (by decide)⟩⟩
  · rw [riConst_plain h, riConst_plain h]
    simp only [if_true, Bool.false_eq_true, if_false, toNat_halves, BitVec.toNat_ofNat]
    omega
  · exact toNat_halves _ _
  · exact toNat_halves _ _

/-! ## Addressing modes (R241) -/

theorem modeEa_eq (m : Mode) (a t : Word) : modeEa m a t = if m.bits.getLsbD 1 then t else a := by
  cases m <;> rfl

theorem updatesBase_eq (m : Mode) : updatesBase m = m.bits.getLsbD 0 := by
  cases m <;> rfl

theorem withBase_of_updates {m : Mode} {rs1 : Reg} {g : Gpr} (hm : updatesBase m = true) (hg : gpr? rs1 = some g)
    (t : Word) (s : State) : withBase m rs1 t s = setReg g t s := by
  simp [withBase, hm, hg]

/-- The base update keeps the value of every other register. -/
theorem readReg_withBase_other {m : Mode} {rs1 : Reg} {r : Gpr} (h : ¬ (updatesBase m = true ∧ gpr? rs1 = some r))
    (t : Word) (s : State) : readReg (withBase m rs1 t s) r = readReg s r := by
  unfold withBase
  split
  case _ g hm hg =>
    refine readReg_setReg_other (fun e => h ⟨hm, ?_⟩) t s
    rw [hg, e]
  case _ => rfl

/-- Settles O24: the bits of PQ, and the base update as one write. -/
theorem addressModes : Obligations.AddressModes := by
  intro m a t rs1 s r
  rw [← updatesBase_eq]
  refine ⟨modeEa_eq m a t, rfl, fun hm hg => ?_, fun h => readReg_withBase_other h t s⟩
  rw [withBase_of_updates hm hg]
  exact ⟨rfl, readReg_setReg⟩

end Sys2Proof.Machine
end

section
/-! PROOF. What each format's instructions do where they complete (41_ri.md to 49_sbr.md): the effects of the format
on readable operands, and the state that such effects end in. -/

namespace Sys2Proof.Machine

/-! ## From effects to the end of the step -/

theorem exec_of_effects {i : Instr} {s : State} {e : Effects} (hp : isPunt i = false)
    (he : formEffects i.form s = .ok e) (hc : collision e s = none)
    (hj : ∀ u, e.jump = some u → aligned4 u = true ∧ s.js = false) :
    exec i s = .next (settled i s (applyEffects e s)) :=
  (exec_next hp).2 ⟨e, he, hc, hj, rfl⟩

theorem exec_of_collision {i : Instr} {s : State} {e : Effects} {g : Gpr} (hp : isPunt i = false)
    (he : formEffects i.form s = .ok e) (hc : collision e s = some g) : exec i s = .refused (.writeCollision g) := by
  rw [exec_eq_runEffects hp, he, runEffects_collision hc]

/-! ## A result of RI, RR and RRR -/

theorem flagWrite_isSome {fmt : AluFormat} {f : Bool} {o : AluOut} {s : State} :
    (flagWrite fmt f o s).isSome = f := by
  cases f <;> rfl

theorem flagWrite_getD (fmt : AluFormat) (f : Bool) (o : AluOut) (s : State) (g : Flags) :
    (flagWrite fmt f o s).getD g = if f then setflags fmt o s else g := by
  cases f <;> rfl

theorem drawsCarry_iff {f : Bool} {o : AluOut} : drawsCarry f o = true ↔ f = true ∧ o.carry = .drawn := by
  simp [drawsCarry]

theorem collision_putResult_reg {fmt : AluFormat} {g : Gpr} {f : Bool} {o : AluOut} {s : State}
    (hw : freeToWrite g s) (hf : freeFlags f (some g) s) : collision (putResult fmt (.reg g) f o s) s = none := by
  rw [collision_eq_none, meeting_eq_none, flagMeeting_eq_none]
  refine ⟨?_, fun hs => ?_⟩
  · rintro g' v l ⟨⟩ hl
    exact hw l hl
  · obtain ⟨hd, hl⟩ := hf (by simpa [putResult, flagWrite_isSome] using hs)
    refine ⟨?_, hl⟩
    rintro g' v ⟨⟩
    exact hd g rfl

theorem collision_putResult_pc {fmt : AluFormat} {f : Bool} {o : AluOut} {s : State} (hf : freeFlags f none s) :
    collision (putResult fmt .pc f o s) s = none := by
  rw [collision_eq_none, meeting_eq_none, flagMeeting_eq_none]
  exact ⟨nofun, fun hs => ⟨nofun, (hf (by simpa [putResult, flagWrite_isSome] using hs)).2⟩⟩

theorem applyEffects_putResult_reg (fmt : AluFormat) (g : Gpr) (f : Bool) (o : AluOut) (s : State) :
    applyEffects (putResult fmt (.reg g) f o s) s = { setReg g o.r (fallThrough s) with
      flags := if f then setflags fmt o s else (setReg g o.r (fallThrough s)).flags
      draws := if f = true ∧ o.carry = .drawn then s.draws + 1 else s.draws } := by
  rw [applyEffects_eq]
  simp [putResult, writeOut, flagWrite_getD, drawsCarry_iff, memAfter, storedAfter]

theorem applyEffects_putResult_pc (fmt : AluFormat) (f : Bool) (o : AluOut) (s : State) :
    applyEffects (putResult fmt .pc f o s) s = { fallThrough s with
      nia := o.r
      js := true
      flags := if f then setflags fmt o s else (fallThrough s).flags
      draws := if f = true ∧ o.carry = .drawn then s.draws + 1 else s.draws } := by
  rw [applyEffects_eq]
  simp [putResult, writeOut, flagWrite_getD, drawsCarry_iff, memAfter, storedAfter]

/-- A result in a register completes where no other write meets it. -/
theorem exec_of_result {i : Instr} {fmt : AluFormat} {g : Gpr} {f : Bool} {o : AluOut} {s : State}
    (hp : isPunt i = false) (he : formEffects i.form s = .ok (putResult fmt (.reg g) f o s)) (hw : freeToWrite g s)
    (hf : freeFlags f (some g) s) : exec i s = .next (settled i s { setReg g o.r (fallThrough s) with
      flags := if f then setflags fmt o s else (setReg g o.r (fallThrough s)).flags
      draws := if f = true ∧ o.carry = .drawn then s.draws + 1 else s.draws }) := by
  rw [exec_of_effects hp he (collision_putResult_reg hw hf) nofun, applyEffects_putResult_reg]

/-- With F = 0 the result is a write over the landing, and nothing else. -/
theorem exec_of_plainResult {i : Instr} {fmt : AluFormat} {g : Gpr} {o : AluOut} {s : State}
    (hp : isPunt i = false) (he : formEffects i.form s = .ok (putResult fmt (.reg g) false o s))
    (hw : freeToWrite g s) : exec i s = .next (settled i s (setReg g o.r (fallThrough s))) := by
  have hd : s.draws = (setReg g o.r (fallThrough s)).draws := by simp
  rw [exec_of_result hp he hw nofun]
  simp only [Bool.false_eq_true, if_false, false_and]
  rw [hd]

/-- A result in the pc completes as a jump. -/
theorem exec_of_resultJump {i : Instr} {fmt : AluFormat} {f : Bool} {o : AluOut} {s : State} (hp : isPunt i = false)
    (he : formEffects i.form s = .ok (putResult fmt .pc f o s)) (ha : aligned4 o.r = true) (hs : s.js = false)
    (hf : freeFlags f none s) : exec i s = .next (settled i s { fallThrough s with
      nia := o.r
      js := true
      flags := if f then setflags fmt o s else (fallThrough s).flags
      draws := if f = true ∧ o.carry = .drawn then s.draws + 1 else s.draws }) := by
  have hj : ∀ u, (putResult fmt .pc f o s).jump = some u → aligned4 u = true ∧ s.js = false := by
    rintro u ⟨⟩
    exact ⟨ha, hs⟩
  rw [exec_of_effects hp he (collision_putResult_pc hf) hj, applyEffects_putResult_pc]

/-! ## Operands that pass their checks -/

theorem dest_reg {rd : Reg} {g : Gpr} (h : gpr? rd = some g) : dest rd = .ok (.reg g) := by
  simp [dest, h]

theorem dest_pc : dest 2#5 = .ok .pc := rfl

theorem plainRd_ok {fmt : Format} {rd : Reg} {g : Gpr} (h : gpr? rd = some g) : plainRd fmt rd = .ok g := by
  simp [plainRd, h]

theorem compute_ok {op : AluOp} {a b : Word} {s : State} {o : AluOut} (h : alu op a b s.flags.c = some o) :
    compute op a b s = .ok o := by
  simp [compute, h]

theorem riEffects_ok {op : AluOp} {b : Word} {rd rs1 : Reg} {f : Bool} {s : State} {d : Dest} {o : AluOut}
    (hd : dest rd = .ok d) (h1 : rs1 ≠ 31#5) (ho : alu op (regValue rs1 s) b s.flags.c = some o) :
    riEffects op b rd rs1 f s = .ok (putResult .ri d f o s) := by
  simp [riEffects, hd, source_readable h1, compute_ok ho]

theorem rrEffects_ok {op : AluOp} {rd rs1 : Reg} {f : Bool} {rs2 : Reg} {s : State} {d : Dest} {o : AluOut}
    (hd : dest rd = .ok d) (h1 : rs1 ≠ 31#5) (h2 : rs2 ≠ 31#5)
    (ho : alu op (regValue rs1 s) (regValue rs2 s) s.flags.c = some o) :
    rrEffects op rd rs1 f rs2 s = .ok (putResult .rr d f o s) := by
  simp [rrEffects, hd, source_readable h1, source_readable h2, compute_ok ho]

theorem rrrEffects_ok {op2 op1 : AluOp} {rd rs1 : Reg} {f : Bool} {rs2 rs3 : Reg} {s : State} {g : Gpr}
    {t o : AluOut} (hg : gpr? rd = some g) (h1 : rs1 ≠ 31#5) (h2 : rs2 ≠ 31#5) (h3 : rs3 ≠ 31#5)
    (ht : alu op1 (regValue rs2 s) (regValue rs3 s) s.flags.c = some t)
    (ho : alu op2 (regValue rs1 s) t.r s.flags.c = some o) :
    rrrEffects op2 op1 rd rs1 f rs2 rs3 s = .ok (putResult .rrr (.reg g) f o s) := by
  simp [rrrEffects, plainRd_ok hg, source_readable h1, source_readable h2, source_readable h3, compute_ok ht,
    compute_ok ho]

/-- Settles O25: the effects of RI on readable operands, in a register. -/
theorem riResult : Obligations.RiResult := by
  intro i op rd rs1 f k g o s hi hg h1 ho hw hf
  exact exec_of_result (by simp [isPunt, hi]) (by rw [hi]; exact riEffects_ok (dest_reg hg) h1 ho) hw hf

/-- Settles O26: the effects of RR on readable operands, in a register. -/
theorem rrResult : Obligations.RrResult := by
  intro i op rd rs1 f rs2 g o s hi hg h1 h2 ho hw hf
  exact exec_of_result (by simp [isPunt, hi]) (by rw [hi]; exact rrEffects_ok (dest_reg hg) h1 h2 ho) hw hf

/-- Settles O27: the effects of RI and RR on readable operands, in the pc. -/
theorem riRrJump : Obligations.RiRrJump := by
  constructor
  · intro i op rs1 f k o s hi h1 ho ha hs hf
    exact exec_of_resultJump (by simp [isPunt, hi]) (by rw [hi]; exact riEffects_ok dest_pc h1 ho) ha hs hf
  · intro i op rs1 f rs2 o s hi h1 h2 ho ha hs hf
    exact exec_of_resultJump (by simp [isPunt, hi]) (by rw [hi]; exact rrEffects_ok dest_pc h1 h2 ho) ha hs hf

/-- Settles O28: the effects of RRR on readable operands. -/
theorem rrrResult : Obligations.RrrResult := by
  intro i op2 op1 rd rs1 f rs2 rs3 g t o s hi hg h1 h2 h3 ht ho hw hf
  exact exec_of_result (by simp [isPunt, hi]) (by rw [hi]; exact rrrEffects_ok hg h1 h2 h3 ht ho) hw hf

/-- CCC of an RRR word is the code of op1 (R103). -/
theorem fld_ccc_rrr (op2 : OpH) (op1 : Op1) (rd rs1 : Reg) (f : Bool) (rs2 rs3 : Reg) :
    fld (encodeForm (.rrr op2 op1 rd rs1 f rs2 rs3)) 0 3 = op1.bits := by
  simp (disch := decide) [encodeForm, fld_or, fld_put_same, fld_put_low, fld_putBit_low]

theorem op1_of_bits {op1 : Op1} {b : BitVec 3} (h : op1.bits = b) : op1 = Op1.ofBits b := by
  rw [← h, Op1.ofBits_bits]

/-- The result of op1 by its code (R222, R224, R226 to R228). -/
theorem alu_op1_of_code {op1 : Op1} {a b t : Word} (c : Bool)
    (h : (op1.bits = 0#3 ∧ t = a + b) ∨ (op1.bits = 2#3 ∧ t = a - b) ∨ (op1.bits = 4#3 ∧ t = a &&& b) ∨
      (op1.bits = 5#3 ∧ t = a ||| b) ∨ (op1.bits = 6#3 ∧ t = a ^^^ b)) :
    ∃ o, alu (op1Alu op1) a b c = some o ∧ o.r = t := by
  rcases h with ⟨hb, rfl⟩ | ⟨hb, rfl⟩ | ⟨hb, rfl⟩ | ⟨hb, rfl⟩ | ⟨hb, rfl⟩ <;> rw [op1_of_bits hb]
  · refine ⟨_, alu_add a b c, ?_⟩
    simp [Sum.out, adder_r_eq_add]
  · exact ⟨_, alu_sub a b c, adder_not_true_r a b⟩
  · exact ⟨_, alu_and a b c, rfl⟩
  · exact ⟨_, alu_or a b c, rfl⟩
  · exact ⟨_, alu_xor a b c, rfl⟩

/-- Settles O29: an or with 0 hands on the result of op1. -/
theorem rrrFirstOperation : Obligations.RrrFirstOperation := by
  intro i op1 h rd rs1 rs2 rs3 g s hi hg h1 h2 h3 h0 hw t ht
  rw [encode, hi, fld_ccc_rrr] at ht
  obtain ⟨o, ho, rfl⟩ := alu_op1_of_code s.flags.c ht
  have hor : alu (opHAlu (.plain .or h)) (regValue rs1 s) o.r s.flags.c = some (logicOut o.r) := by
    rw [h0]
    exact congrArg (fun r => some (logicOut r)) BitVec.zero_or
  exact exec_of_plainResult (o := logicOut o.r) (by simp [isPunt, hi])
    (by rw [hi]; exact rrrEffects_ok hg h1 h2 h3 ho hor) hw

/-! ## The all-zero word (R172) -/

/-- Writing R0 its own value over the landing of another register changes nothing, but for a side effect that the
end of the step overrides. -/
theorem settled_write_same {i : Instr} {g : Gpr} {s : State} (hi : gprNumber g ∈ accessed i) (hw : freeToWrite g s) :
    settled i s (setReg g (readReg s g) (fallThrough s)) = settled i s (fallThrough s) := by
  by_cases hb : behaviour s.params g = some .sideEffect
  · have ht : touches s (accessed i) = true := by
      have hside : hasSideEffect s.params (gprNumber g) = true := by simp [hasSideEffect, hb]
      rw [touches, List.any_eq_true.2 ⟨_, hi, hside⟩, Bool.true_or]
    rw [settled, settled, afterAccess, afterAccess, if_pos ht, if_pos ht, setReg_eq]
  · have hread : readReg (fallThrough s) g = readReg s g := by
      rw [← readReg_landed hw]
      exact readReg_congr (by simp) rfl (by simpa using hb) (.inr rfl)
    rw [← hread, setReg_readReg (s := fallThrough s) hb]

theorem gpr?_zero : gpr? 0#5 = some 0 := rfl

theorem formEffects_allZero (s : State) : formEffects (Instr.riAdd 0#5 0#5 false false 0#16).form s =
    .ok (putResult .ri (.reg 0) false (adder (readReg s 0) 0#32 false).out s) :=
  riEffects_ok (dest_reg gpr?_zero) (by decide) (alu_add (readReg s 0) 0#32 s.flags.c)

/-- Settles O42: R0 takes its own value, where no late value lands on it. -/
theorem allZeroWord : Obligations.AllZeroWord := by
  refine ⟨by decide, fun s => ⟨fun hw => ?_, fun hw => ?_⟩⟩
  · have hsum : (adder (readReg s 0) 0#32 false).out.r = readReg s 0 := by
      simp [Sum.out, adder_r_eq_add]
    rw [exec_of_plainResult rfl (formEffects_allZero s) hw, hsum, settled_write_same (by decide) hw]
  · obtain ⟨l, hl, h0⟩ : ∃ l, s.lp = some l ∧ l.reg = 0 := by simpa [freeToWrite] using hw
    refine exec_of_collision rfl (formEffects_allZero s) ?_
    simp [collision, meeting, putResult, hl, h0]

/-! ## Loads and stores -/

/-- The base update of a mode, as a write at time 2 (R241). -/
def baseWrite (m : Mode) (rs1 : Reg) (t : Word) : Option (Gpr × Word) :=
  if updatesBase m then (gpr? rs1).map (fun g => (g, t)) else none

theorem writeOut_baseWrite (m : Mode) (rs1 : Reg) (t : Word) (s : State) :
    writeOut (baseWrite m rs1 t) s = withBase m rs1 t s := by
  unfold baseWrite withBase
  cases updatesBase m <;> cases gpr? rs1 <;> rfl

theorem baseWrite_eq_some {m : Mode} {rs1 : Reg} {t v : Word} {g : Gpr} (h : baseWrite m rs1 t = some (g, v)) :
    updatesBase m = true ∧ gpr? rs1 = some g := by
  unfold baseWrite at h
  cases hm : updatesBase m <;> cases hg : gpr? rs1 <;> simp_all

theorem collision_baseWrite {m : Mode} {rs1 : Reg} {t : Word} {e : Effects} {s : State}
    (he : e.write = baseWrite m rs1 t) (hf : e.flags = none) (hb : baseFree m rs1 s) : collision e s = none := by
  rw [collision_of_no_flags hf, meeting_eq_none]
  intro g v l hw hl
  obtain ⟨hm, hg⟩ := baseWrite_eq_some (he ▸ hw)
  exact (hb hm).2 g hg l hl

/-- A write at time 2 changes the registers and the flags alone. -/
theorem writeOut_eq (w : Option (Gpr × Word)) (s : State) :
    writeOut w s = { s with regs := (writeOut w s).regs, flags := (writeOut w s).flags } := by
  rcases w with _ | ⟨g, v⟩
  · rfl
  · exact setReg_eq g v s

theorem applyEffects_loaded (w : Option (Gpr × Word)) (l : Late) (s : State) :
    applyEffects { write := w, late := some l } s = { writeOut w (fallThrough s) with lp := some l } := by
  rw [applyEffects_eq, writeOut_eq]
  rfl

theorem applyEffects_stored_to (w : Option (Gpr × Word)) (st : Store) (s : State) :
    applyEffects { write := w, store := some st } s =
      { writeOut w (fallThrough s) with mem := memAfter (some st) s, stored := storedAfter (some st) s } := by
  rw [applyEffects_eq, writeOut_eq]
  rfl

theorem Size.bytes_le (size : Size) : size.bytes ≤ 4 := by cases size <;> decide

/-- The bytes of a store, in the terms of `StoredAt`. -/
theorem storedAt_of_store {s t : State} {a : Word} {n : Nat} {v : Word} (hn : n ≤ 4) (hm : Memory.wf s.mem = true)
    (ht : t.mem = memAfter (some { addr := a, bytes := bytesOf s.params.endian n v }) s)
    (hw : t.stored = storedAfter (some { addr := a, bytes := bytesOf s.params.endian n v }) s) :
    StoredAt s t a n v where
  bytes := by
    have hlen := bytesOf_length s.params.endian n v
    have hread := Memory.readBytes_writeBytes hm a (bytesOf s.params.endian n v) (by omega)
    rw [hlen] at hread
    rw [ht]
    exact hread
  frame := fun x hx => by
    rw [ht]
    refine readByte_memAfter ?_
    rintro y ⟨⟩ j hj
    exact hx j (by simpa [bytesOf_length] using hj)
  more := fun x => by
    rw [hw, mem_storedAfter]
    simp [bytesOf_length]

/-! ## Addresses that pass their checks -/

theorem baseReg_isOk {m : Mode} {rs1 : Reg} (h1 : rs1 ≠ 31#5) (hb : updatesBase m = true → rs1 ≠ 2#5) :
    ∃ b, baseReg m rs1 = .ok b := by
  cases hg : gpr? rs1 with
  | some g => cases m <;> simp [baseReg, hg]
  | none =>
    have h2 : rs1 = 2#5 := (gpr?_eq_none.1 hg).resolve_right h1
    cases m
    case base | off => exact ⟨none, rfl⟩
    case post | pre => exact absurd h2 (hb rfl)

theorem dispAddress_ok {rs1 : Reg} {m : Mode} {s : State} (h1 : rs1 ≠ 31#5) (hb : updatesBase m = true → rs1 ≠ 2#5)
    (k : Word) : dispAddress rs1 m k s =
      .ok (modeEa m (regValue rs1 s) (regValue rs1 s + k), baseWrite m rs1 (regValue rs1 s + k)) := by
  obtain ⟨b, hbase⟩ := baseReg_isOk h1 hb
  simp [dispAddress, source_readable h1, hbase, baseReg_eq_ok hbase, baseWrite]

theorem rrmAddress_ok {op : AluOp} {rs1 : Reg} {m : Mode} {rs2 : Reg} {s : State} {o : AluOut} (h1 : rs1 ≠ 31#5)
    (h2 : rs2 ≠ 31#5) (hb : updatesBase m = true → rs1 ≠ 2#5)
    (ho : m ≠ .base → alu op (regValue rs1 s) (regValue rs2 s) s.flags.c = some o) :
    rrmAddress op rs1 m rs2 s = .ok (modeEa m (regValue rs1 s) o.r, baseWrite m rs1 o.r) := by
  obtain ⟨b, hbase⟩ := baseReg_isOk h1 hb
  unfold rrmAddress
  rw [source_readable h1, source_readable h2, hbase]
  cases m
  case base => rfl
  all_goals
    simp only [except_bind_ok, compute_ok (ho (by decide)), except_pure, baseReg_eq_ok hbase]
    rfl

theorem loadEffects_ok {g : Gpr} {size : Size} {ext : Ext} {ea : Word} {w : Option (Gpr × Word)} {s : State}
    (ha : ea.toNat % size.bytes = 0) (hv : memValid s.params ea size.bytes = true) :
    loadEffects g size ext (ea, w) s =
      .ok { write := w, late := some { reg := g, val := extend size ext (valueAt ea size.bytes s) } } := by
  simp [loadEffects, memRead_ok ha hv]

theorem storeEffects_ok {g : Gpr} {size : Size} {ea : Word} {w : Option (Gpr × Word)} {s : State}
    (ha : ea.toNat % size.bytes = 0) (hv : memValid s.params ea size.bytes = true) :
    storeEffects g size (ea, w) s = .ok
      { write := w, store := some { addr := ea, bytes := bytesOf s.params.endian size.bytes (readReg s g) } } := by
  simp [storeEffects, memWrite_ok ha hv]

/-- A load at an aligned address that exists completes where its base update meets no landing. -/
theorem exec_of_load {i : Instr} {g : Gpr} {size : Size} {ext : Ext} {m : Mode} {rs1 : Reg} {ea t : Word} {s : State}
    (hp : isPunt i = false) (he : formEffects i.form s = loadEffects g size ext (ea, baseWrite m rs1 t) s)
    (ha : ea.toNat % size.bytes = 0) (hv : memValid s.params ea size.bytes = true) (hb : baseFree m rs1 s) :
    exec i s = .next (settled i s { withBase m rs1 t (fallThrough s) with
      lp := some { reg := g, val := extend size ext (valueAt ea size.bytes s) } }) := by
  rw [loadEffects_ok ha hv] at he
  rw [exec_of_effects hp he (collision_baseWrite rfl rfl hb) nofun, applyEffects_loaded, writeOut_baseWrite]

/-- A store at an aligned address that exists completes where its base update meets no landing. -/
theorem exec_of_store {i : Instr} {g : Gpr} {size : Size} {m : Mode} {rs1 : Reg} {ea t : Word} {s : State}
    (hp : isPunt i = false) (he : formEffects i.form s = storeEffects g size (ea, baseWrite m rs1 t) s)
    (ha : ea.toNat % size.bytes = 0) (hv : memValid s.params ea size.bytes = true) (hb : baseFree m rs1 s)
    (hm : Memory.wf s.mem = true) :
    ∃ u, exec i s = .next (settled i s u) ∧
      u = { withBase m rs1 t (fallThrough s) with mem := u.mem, stored := u.stored } ∧
      StoredAt s u ea size.bytes (readReg s g) := by
  rw [storeEffects_ok ha hv] at he
  refine ⟨_, exec_of_effects hp he (collision_baseWrite rfl rfl hb) nofun, ?_,
    storedAt_of_store size.bytes_le hm rfl rfl⟩
  rw [applyEffects_stored_to, writeOut_baseWrite]

/-! ## SLS (R340) -/

/-- The two low bits of the address are ignored. -/
theorem slsAddr_toNat (a : BitVec 21) : (slsAddr a).toNat = a.toNat / 4 * 4 := by
  have ha := a.isLt
  have hmask : slsAddr a = a.setWidth 32 >>> (2 : Nat) <<< (2 : Nat) := by
    apply BitVec.eq_of_getLsbD_eq
    intro j hj
    have hbit : (0xFFFFFFFC#32).getLsbD j = decide (2 ≤ j) := by
      revert j; decide
    rw [slsAddr, BitVec.getLsbD_and, hbit, BitVec.getLsbD_shiftLeft, BitVec.getLsbD_ushiftRight, decide_eq_true hj]
    by_cases h2 : 2 ≤ j
    · simp [h2, show ¬ j < 2 by omega, show 2 + (j - 2) = j by omega]
    · simp [h2, show j < 2 by omega]
  rw [hmask, BitVec.toNat_shiftLeft, BitVec.toNat_ushiftRight, BitVec.toNat_setWidth, Nat.shiftLeft_eq,
    Nat.shiftRight_eq_div_pow]
  omega

theorem slsAddr_aligned (a : BitVec 21) : (slsAddr a).toNat % 4 = 0 := by
  rw [slsAddr_toNat]
  exact Nat.mul_mod_left _ 4

theorem baseFree_base (rs1 : Reg) (s : State) : baseFree .base rs1 s := nofun

theorem baseWrite_base (rs1 : Reg) (t : Word) : baseWrite .base rs1 t = none := rfl

/-! ## Jumps of BR and SBR (R290, R370) -/

theorem applyEffects_jump (t : Word) (s : State) :
    applyEffects { jump := some t } s = { fallThrough s with nia := t, js := true } := rfl

theorem collision_jump (t : Word) (s : State) : collision { jump := some t } s = none := by
  rw [collision_of_no_flags rfl, meeting_eq_none]
  nofun

/-- A jump alone: it completes outside a jump's shadow at a multiple of 4, else it is refused, the alignment first. -/
theorem exec_of_jump {i : Instr} {t : Word} {s : State} (hp : isPunt i = false)
    (he : formEffects i.form s = .ok { jump := some t }) :
    (aligned4 t = true → s.js = false → exec i s = .next (settled i s { fallThrough s with nia := t, js := true })) ∧
    (aligned4 t = false → exec i s = .refused (.misalignedTarget t)) ∧
    (aligned4 t = true → s.js = true → exec i s = .refused (.jumpInShadow s.cia)) := by
  refine ⟨fun ha hs => ?_, fun ha => ?_, fun ha hs => ?_⟩
  · rw [exec_of_effects hp he (collision_jump t s), applyEffects_jump]
    rintro u ⟨⟩
    exact ⟨ha, hs⟩
  · rw [exec_eq_runEffects hp, he, runEffects_misaligned (collision_jump t s) rfl ha]
  · rw [exec_eq_runEffects hp, he, runEffects_shadow (collision_jump t s) rfl ha hs]

theorem sbrEffects_ok {c : Cond} {rs1 rs3 : Reg} {s : State} (h1 : rs1 ≠ 31#5) (h3 : rs3 ≠ 31#5) :
    sbrEffects c rs1 rs3 s =
      .ok (if cond c s.flags then { jump := some (regValue rs1 s + regValue rs3 s) } else {}) := by
  simp [sbrEffects, source_readable h1, source_readable h3]

/-- Settles O38: a branch is a jump to its target where its condition holds. -/
theorem branchResult : Obligations.BranchResult := by
  intro i rel c k s hi
  have hp : isPunt i = false := by simp [isPunt, hi]
  have halign : (rel = true → aligned4 s.cia = true) →
      aligned4 (if rel then relTarget s k else absTarget k) = true := fun hcia => by
    cases rel
    · exact absTarget_aligned k
    · exact relTarget_aligned (hcia rfl) k
  have he : cond c s.flags = true → formEffects i.form s =
      .ok { jump := some (if rel then relTarget s k else absTarget k) } := fun hc => by
    rw [hi, formEffects, branchEffects, if_pos hc]
  refine ⟨exec_br_not_taken hi, fun hc hcia hs => ?_, fun hc hcia hs => ?_⟩
  · exact (exec_of_jump hp (he hc)).1 (halign hcia) hs
  · exact (exec_of_jump hp (he hc)).2.2 (halign hcia) hs

/-- Settles O40: a special branch is a jump to the sum where its condition holds. -/
theorem sbrResult : Obligations.SbrResult := by
  intro i c rs1 rs3 s hi h1 h3
  have hp : isPunt i = false := by simp [isPunt, hi]
  have he : formEffects i.form s = sbrEffects c rs1 rs3 s := by rw [hi, formEffects]
  rw [sbrEffects_ok h1 h3] at he
  cases hc : cond c s.flags with
  | false =>
    rw [hc] at he
    refine ⟨fun _ => ?_, nofun, nofun, nofun⟩
    rw [exec_of_effects hp he (collision_empty s) nofun, ← applyEffects_empty]
    rfl
  | true =>
    rw [hc] at he
    obtain ⟨hjump, hmis, hshadow⟩ := exec_of_jump hp he
    exact ⟨nofun, fun _ => hjump, fun _ => hmis, fun _ => hshadow⟩

end Sys2Proof.Machine

namespace Sys2Proof.Proofs

open Sys2Proof.Machine

/-- Settles O30: a load of a fullword at the displaced address. -/
theorem rmLoad : Obligations.RmLoad := by
  rintro i rd rs1 m k g ea s hi hg h1 rfl ha hv hb
  refine exec_of_load (size := .full) (ext := .zero) (by simp [isPunt, hi]) ?_ ha hv hb
  rw [hi, formEffects, if_neg Bool.false_ne_true, rmLoadEffects, plainRd_ok hg, except_bind_ok,
    dispAddress_ok h1 fun hm => (hb hm).1, except_bind_ok]

/-- Settles O31: a store of a fullword at the displaced address. -/
theorem rmStore : Obligations.RmStore := by
  rintro i rd rs1 m k g ea s hi hg h1 rfl ha hv hb hm
  refine exec_of_store (size := .full) (by simp [isPunt, hi]) ?_ ha hv hb hm
  rw [hi, formEffects, if_pos rfl, rmStoreEffects, plainRd_ok hg, except_bind_ok,
    dispAddress_ok h1 fun hm => (hb hm).1, except_bind_ok]

/-- Settles O32: a load at the address that the operation gives. -/
theorem rrmLoad : Obligations.RrmLoad := by
  rintro i x rd rs1 m rs2 g o ea s hi hs hg h1 h2 ho rfl ha hv hb
  refine exec_of_load (by simp [isPunt, hi]) ?_ ha hv hb
  rw [hi, formEffects, if_neg (by simp [hs]), rrmLoadEffects, plainRd_ok hg, except_bind_ok,
    rrmAddress_ok h1 h2 (fun hm => (hb hm).1) ho, except_bind_ok]

/-- Settles O33: a store at the address that the operation gives. -/
theorem rrmStore : Obligations.RrmStore := by
  rintro i x rd rs1 m rs2 g o ea s hi hs hg h1 h2 ho rfl ha hv hb hm
  refine exec_of_store (by simp [isPunt, hi]) ?_ ha hv hb hm
  rw [hi, formEffects, if_pos hs, rrmStoreEffects, plainRd_ok hg, except_bind_ok,
    rrmAddress_ok h1 h2 (fun hm => (hb hm).1) ho, except_bind_ok]

/-- Settles O34: the fullword at an address that is never misaligned, without a base. -/
theorem slsAccess : Obligations.SlsAccess := by
  intro i rd a g s hg
  have ha := slsAddr_aligned a
  refine ⟨slsAddr_toNat a, fun hi hv => ?_, fun hi hv hm => ?_⟩
  · refine exec_of_load (size := .full) (ext := .zero) (t := 0#32) (by simp [isPunt, hi]) ?_ ha hv (baseFree_base rd s)
    rw [hi, formEffects, if_neg Bool.false_ne_true, slsLoadEffects, plainRd_ok hg, except_bind_ok, baseWrite_base]
  · refine exec_of_store (size := .full) (t := 0#32) (by simp [isPunt, hi]) ?_ ha hv (baseFree_base rd s) hm
    rw [hi, formEffects, if_pos rfl, slsStoreEffects, plainRd_ok hg, except_bind_ok, baseWrite_base]

/-- Settles O35: the constant as a late value, without a base. -/
theorem sliResult : Obligations.SliResult := by
  intro rd k g s hg
  have he : formEffects (Instr.sli rd k).form s =
      .ok { late := some { reg := g, val := BitVec.ofNat 32 k.toNat } } := by
    rw [Instr.form, formEffects, sliEffects, plainRd_ok hg, except_bind_ok, BitVec.ofNat_toNat]
    rfl
  have hc : collision { late := some { reg := g, val := BitVec.ofNat 32 k.toNat } } s = none :=
    collision_baseWrite (baseWrite_base rd 0#32).symm rfl (baseFree_base rd s)
  exact exec_of_effects rfl he hc nofun

/-- Settles O36: a part-word load at the displaced address. -/
theorem splsLoad : Obligations.SplsLoad := by
  rintro i acc rd rs1 m k g ea s hi hs hg h1 rfl ha hv hb
  refine exec_of_load (by simp [isPunt, hi]) ?_ ha hv hb
  rw [hi, formEffects, if_neg (by simp [hs]), splsLoadEffects, plainRd_ok hg, except_bind_ok,
    dispAddress_ok h1 fun hm => (hb hm).1, except_bind_ok]

/-- Settles O37: a part-word store at the displaced address. -/
theorem splsStore : Obligations.SplsStore := by
  rintro i acc rd rs1 m k g ea s hi hs hg h1 rfl ha hv hb hm
  refine exec_of_store (by simp [isPunt, hi]) ?_ ha hv hb hm
  rw [hi, formEffects, if_pos hs, splsStoreEffects, plainRd_ok hg, except_bind_ok,
    dispAddress_ok h1 fun hm => (hb hm).1, except_bind_ok]

end Sys2Proof.Proofs
end

section
/-! PROOF. Where an instruction stops (60_exceptions.md R392, R394): the static checks in their order, the shift
range, the access, the collision and the jump. -/

namespace Sys2Proof.Machine

theorem exec_of_error {i : Instr} {s : State} {r : Refusal} (hp : isPunt i = false)
    (he : formEffects i.form s = .error r) : exec i s = .refused r := by
  rw [exec_eq_runEffects hp, he, runEffects_error]

/-! ## Static violations (10_state.md R23, R24, R29, 30_encoding.md R116 d) -/

theorem isrViolation_eq_some {field : RegField} {r : Reg} {v : Violation} :
    isrViolation field r = some v ↔ r = 31#5 ∧ v = .isrAccess field := by
  simp [isrViolation, eq_comm]

theorem isrViolation_eq_none {field : RegField} {r : Reg} : isrViolation field r = none ↔ r ≠ 31#5 := by
  simp [isrViolation]

theorem rdViolation_eq_some {fmt : Format} {rd : Reg} {v : Violation} :
    rdViolation fmt rd = some v ↔ gpr? rd = none ∧ v = .restrictedRd fmt rd := by
  rw [gpr?_eq_none]
  simp [rdViolation, eq_comm]

theorem rdViolation_eq_none {fmt : Format} {rd : Reg} : rdViolation fmt rd = none ↔ ∃ g, gpr? rd = some g := by
  rw [← Option.isSome_iff_exists, Option.isSome_iff_ne_none, ne_eq, gpr?_eq_none]
  simp [rdViolation]

theorem updatesBase_iff {m : Mode} : updatesBase m = true ↔ m = .post ∨ m = .pre := by
  cases m <;> simp [updatesBase]

theorem baseViolation_eq_some {m : Mode} {rs1 : Reg} {v : Violation} :
    baseViolation m rs1 = some v ↔ (updatesBase m = true ∧ rs1 = 2#5) ∧ v = .restrictedBase rs1 := by
  simp only [baseViolation, updatesBase_iff, Option.ite_none_right_eq_some, Option.some.injEq, @eq_comm _ v]

theorem baseViolation_eq_none {m : Mode} {rs1 : Reg} :
    baseViolation m rs1 = none ↔ (updatesBase m = true → rs1 ≠ 2#5) := by
  simp [baseViolation, updatesBase_iff]

theorem amountViolation_eq_some {op : OpH} {k : BitVec 16} {v : Violation} (h : amountViolation op k = some v)
    (a : Word) (c : Bool) : alu (opHAlu op) a (riConst op k) c = none ∧ v = .shiftRange (riConst op k).toInt := by
  have hk : (k.signExtend 32).toInt = k.toInt := BitVec.toInt_signExtend_of_le (by decide)
  cases op with
  | plain op b => cases h
  | sh | sha =>
    simp only [amountViolation, Option.ite_none_right_eq_some, Option.some.injEq] at h
    obtain ⟨hr, rfl⟩ := h
    show alu _ a (k.signExtend 32) c = none ∧ _ = Violation.shiftRange (k.signExtend 32).toInt
    rw [hk]
    exact ⟨shift_eq_none.2 (by rwa [hk]), rfl⟩

/-- A check of a rule and the violation that it looks for: it stops with that violation, and passes without one. -/
structure Check {α : Type} (x : Except Refusal α) (c : Option Violation) : Prop where
  stops : ∀ v, c = some v → x = .error (violationRefusal v)
  passes : c = none → ∃ a, x = .ok a

/-- A computation stops with a violation, whatever it does without one. -/
def StopsWith {α : Type} (x : Except Refusal α) (c : Option Violation) : Prop :=
  ∀ v, c = some v → x = .error (violationRefusal v)

/-- The first check that fails gives the reason. -/
theorem Check.bind {α β : Type} {x : Except Refusal α} {f : α → Except Refusal β} {c d : Option Violation}
    (hx : Check x c) (hf : c = none → ∀ a, StopsWith (f a) d) : StopsWith (x >>= f) (c.or d) := by
  intro v hv
  cases hc : c with
  | some w =>
    obtain rfl : w = v := by simpa [hc] using hv
    rw [hx.stops w hc, except_bind_error]
  | none =>
    obtain ⟨a, rfl⟩ := hx.passes hc
    rw [except_bind_ok]
    exact hf hc a v (by simpa [hc] using hv)

theorem StopsWith.bind {α β : Type} {x : Except Refusal α} {c : Option Violation} (hx : StopsWith x c)
    (f : α → Except Refusal β) : StopsWith (x >>= f) c := by
  intro v hv
  rw [hx v hv, except_bind_error]

theorem check_source (field : RegField) (r : Reg) (s : State) : Check (source field r s) (isrViolation field r) where
  stops := fun v hv => by
    obtain ⟨rfl, rfl⟩ := isrViolation_eq_some.1 hv
    exact source_isr field s
  passes := fun h => ⟨_, source_readable (isrViolation_eq_none.1 h)⟩

theorem check_dest (rd : Reg) : Check (dest rd) (isrViolation .rd rd) where
  stops := fun v hv => by
    obtain ⟨rfl, rfl⟩ := isrViolation_eq_some.1 hv
    rfl
  passes := fun h => by
    cases hg : gpr? rd with
    | some g => exact ⟨_, dest_reg hg⟩
    | none =>
      obtain rfl := (gpr?_eq_none.1 hg).resolve_right (isrViolation_eq_none.1 h)
      exact ⟨_, dest_pc⟩

theorem check_plainRd (fmt : Format) (rd : Reg) : Check (plainRd fmt rd) (rdViolation fmt rd) where
  stops := fun v hv => by
    obtain ⟨hg, rfl⟩ := rdViolation_eq_some.1 hv
    simp [plainRd, hg, violationRefusal]
  passes := fun h => by
    obtain ⟨g, hg⟩ := rdViolation_eq_none.1 h
    exact ⟨g, plainRd_ok hg⟩

theorem check_baseReg {rs1 : Reg} (h1 : rs1 ≠ 31#5) (m : Mode) : Check (baseReg m rs1) (baseViolation m rs1) where
  stops := fun v hv => by
    obtain ⟨⟨hm, rfl⟩, rfl⟩ := baseViolation_eq_some.1 hv
    cases m
    case base | off => cases hm
    case post | pre => rfl
  passes := fun h => baseReg_isOk h1 (baseViolation_eq_none.1 h)

theorem stops_amount (op : OpH) (k : BitVec 16) (a : Word) (s : State) :
    StopsWith (compute (opHAlu op) a (riConst op k) s) (amountViolation op k) := by
  intro v hv
  obtain ⟨ha, rfl⟩ := amountViolation_eq_some hv a s.flags.c
  simp [compute, ha, violationRefusal]

theorem stops_dispAddress (rs1 : Reg) (m : Mode) (k : Word) (s : State) :
    StopsWith (dispAddress rs1 m k s) ((isrViolation .rs1 rs1).or (baseViolation m rs1)) :=
  (check_source .rs1 rs1 s).bind fun h _ =>
    StopsWith.bind (check_baseReg (isrViolation_eq_none.1 h) m).stops _

theorem stops_rrmAddress (op : AluOp) (rs1 : Reg) (m : Mode) (rs2 : Reg) (s : State) :
    StopsWith (rrmAddress op rs1 m rs2 s)
      ((isrViolation .rs1 rs1).or ((isrViolation .rs2 rs2).or (baseViolation m rs1))) :=
  (check_source .rs1 rs1 s).bind fun h _ => (check_source .rs2 rs2 s).bind fun _ _ =>
    StopsWith.bind (check_baseReg (isrViolation_eq_none.1 h) m).stops _

/-- The rule of every format checks what its word already decides, in the order of R394. -/
theorem stops_formEffects (x : Form) (s : State) : StopsWith (formEffects x s) x.violation := by
  cases x with
  | ri op rd rs1 f k =>
    exact (check_dest rd).bind fun _ _ => (check_source .rs1 rs1 s).bind fun _ a => (stops_amount op k a s).bind _
  | rr op rd rs1 f rs2 =>
    exact (check_dest rd).bind fun _ _ => (check_source .rs1 rs1 s).bind fun _ _ =>
      StopsWith.bind (check_source .rs2 rs2 s).stops _
  | rrr op2 op1 rd rs1 f rs2 rs3 =>
    exact (check_plainRd .rrr rd).bind fun _ _ => (check_source .rs1 rs1 s).bind fun _ _ =>
      (check_source .rs2 rs2 s).bind fun _ _ => StopsWith.bind (check_source .rs3 rs3 s).stops _
  | rm store rd rs1 m k =>
    cases store <;> exact (check_plainRd .rm rd).bind fun _ _ => (stops_dispAddress rs1 m _ s).bind _
  | rrm y rd rs1 m rs2 =>
    simp only [formEffects]
    split <;> exact (check_plainRd .rrm rd).bind fun _ _ => (stops_rrmAddress _ rs1 m rs2 s).bind _
  | br rel c k => nofun
  | punt => nofun
  | sls store rd a =>
    cases store <;> exact StopsWith.bind (check_plainRd .sls rd).stops _
  | sli rd k => exact StopsWith.bind (check_plainRd .sli rd).stops _
  | spls acc rd rs1 m k =>
    simp only [formEffects]
    split <;> exact (check_plainRd .spls rd).bind fun _ _ => (stops_dispAddress rs1 m _ s).bind _
  | sbr c rs1 rs3 =>
    exact (check_source .rs1 rs1 s).bind fun _ _ => StopsWith.bind (check_source .rs3 rs3 s).stops _

/-- Settles O43: the rule of the format stops with the first violation. -/
theorem staticViolationsRefused : Obligations.StaticViolationsRefused := by
  intro i v s hv
  have hp : isPunt i = false := by
    cases hi : i.form <;> simp_all [Instr.violation, Form.violation, isPunt]
  exact exec_of_error hp (stops_formEffects i.form s v hv)

/-! ## Shift amounts in registers (40_alu_operations.md R150) -/

theorem compute_error {op : AluOp} {a b : Word} {s : State} (h : alu op a b s.flags.c = none) :
    compute op a b s = .error (.shiftRange b.toInt) := by
  simp [compute, h]

theorem rrmAddress_error {op : AluOp} {rs1 : Reg} {m : Mode} {rs2 : Reg} {s : State} (h1 : rs1 ≠ 31#5)
    (h2 : rs2 ≠ 31#5) (hb : updatesBase m = true → rs1 ≠ 2#5) (hm : m ≠ .base)
    (ho : alu op (regValue rs1 s) (regValue rs2 s) s.flags.c = none) :
    rrmAddress op rs1 m rs2 s = .error (.shiftRange (regValue rs2 s).toInt) := by
  obtain ⟨b, hbase⟩ := baseReg_isOk h1 hb
  unfold rrmAddress
  rw [source_readable h1, source_readable h2, hbase]
  cases m
  case base => exact absurd rfl hm
  all_goals simp only [except_bind_ok, compute_error ho, except_bind_error]

/-- Settles O44: the operands pass their checks, and the operation has no result. -/
theorem registerShiftRange : Obligations.RegisterShiftRange := by
  refine ⟨fun i op rd rs1 f rs2 s hi hv ho => ?_, fun i op2 op1 rd rs1 f rs2 rs3 s hi hv ho => ?_,
    fun i op2 op1 rd rs1 f rs2 rs3 t s hi hv ht ho => ?_, fun i x rd rs1 m rs2 s hi hv hm ho => ?_⟩ <;>
    refine exec_of_error (by simp [isPunt, hi]) ?_ <;>
    simp only [Instr.violation, hi, Form.violation, Option.or_eq_none_iff] at hv <;> rw [hi]
  · obtain ⟨hd, h1, h2⟩ := hv
    obtain ⟨d, hd⟩ := (check_dest rd).passes hd
    simp [formEffects, rrEffects, hd, source_readable (isrViolation_eq_none.1 h1),
      source_readable (isrViolation_eq_none.1 h2), compute_error ho]
  · obtain ⟨hd, h1, h2, h3⟩ := hv
    obtain ⟨g, hg⟩ := rdViolation_eq_none.1 hd
    simp [formEffects, rrrEffects, plainRd_ok hg, source_readable (isrViolation_eq_none.1 h1),
      source_readable (isrViolation_eq_none.1 h2), source_readable (isrViolation_eq_none.1 h3), compute_error ho]
  · obtain ⟨hd, h1, h2, h3⟩ := hv
    obtain ⟨g, hg⟩ := rdViolation_eq_none.1 hd
    simp [formEffects, rrrEffects, plainRd_ok hg, source_readable (isrViolation_eq_none.1 h1),
      source_readable (isrViolation_eq_none.1 h2), source_readable (isrViolation_eq_none.1 h3), compute_ok ht,
      compute_error ho]
  · obtain ⟨hd, h1, h2, hb⟩ := hv
    obtain ⟨g, hg⟩ := rdViolation_eq_none.1 hd
    have hx := rrmAddress_error (isrViolation_eq_none.1 h1) (isrViolation_eq_none.1 h2)
      (baseViolation_eq_none.1 hb) hm ho
    cases hs : x.s <;> simp [formEffects, rrmLoadEffects, rrmStoreEffects, plainRd_ok hg, hs, hx]

/-! ## Accesses (20_memory.md R66) -/

theorem checkAccess_misaligned {a : Word} {n : Nat} {s : State} (h : a.toNat % n ≠ 0) :
    checkAccess a n s = .error (.misaligned a n) := by
  simp [checkAccess, h]

theorem checkAccess_invalid {a : Word} {n : Nat} {s : State} (h : a.toNat % n = 0)
    (hv : memValid s.params a n = false) : checkAccess a n s = .error (.accessInvalid a n) := by
  simp [checkAccess, h, hv]

/-- The effects of a rule begin with the checks of an access of `n` bytes at `ea`. -/
def Accesses (x : Except Refusal Effects) (ea : Word) (n : Nat) (s : State) : Prop :=
  ∀ r, checkAccess ea n s = .error r → x = .error r

theorem accesses_load (g : Gpr) (size : Size) (ext : Ext) (ea : Word) (w : Option (Gpr × Word)) (s : State) :
    Accesses (loadEffects g size ext (ea, w) s) ea size.bytes s := by
  intro r hr
  simp [loadEffects, memRead, hr]

theorem accesses_store (g : Gpr) (size : Size) (ea : Word) (w : Option (Gpr × Word)) (s : State) :
    Accesses (storeEffects g size (ea, w) s) ea size.bytes s := by
  intro r hr
  simp [storeEffects, memWrite, hr]

/-- The address of an RRM access that its word does not make the spec refuse. -/
theorem rrmAddress_of_dataAccess {i : Instr} {x : RrmForm} {rd rs1 : Reg} {m : Mode} {rs2 : Reg} {ea : Word} {n : Nat}
    {s : State} (hi : i.form = .rrm x rd rs1 m rs2) (h1 : rs1 ≠ 31#5) (h2 : rs2 ≠ 31#5)
    (hb : updatesBase m = true → rs1 ≠ 2#5) (hd : dataAccess i s = some (ea, n)) :
    n = (rrmSize x).bytes ∧ ∃ w, rrmAddress (rrmAlu x) rs1 m rs2 s = .ok (ea, w) := by
  simp only [dataAccess, hi] at hd
  by_cases hm : m = .base
  · rw [if_pos hm] at hd
    cases hd
    subst hm
    exact ⟨rfl, _, rrmAddress_ok (o := logicOut 0#32) h1 h2 hb (absurd rfl)⟩
  · rw [if_neg hm] at hd
    cases ho : alu (rrmAlu x) (regValue rs1 s) (regValue rs2 s) s.flags.c with
    | none => rw [ho] at hd; cases hd
    | some o =>
      rw [ho] at hd
      cases hd
      exact ⟨rfl, _, rrmAddress_ok h1 h2 hb fun _ => ho⟩

/-- A load or store that its word does not make the spec refuse accesses memory as `dataAccess` says. -/
theorem accesses_formEffects {i : Instr} {ea : Word} {n : Nat} {s : State} (hv : i.violation = none)
    (hd : dataAccess i s = some (ea, n)) : Accesses (formEffects i.form s) ea n s := by
  cases hi : i.form with
  | ri | rr | rrr | br | punt | sli | sbr => simp [dataAccess, hi] at hd
  | rm store rd rs1 m k =>
    simp only [Instr.violation, hi, Form.violation, Option.or_eq_none_iff] at hv
    simp only [dataAccess, hi, Option.some.injEq, Prod.mk.injEq] at hd
    obtain ⟨h0, h1, hb⟩ := hv
    obtain ⟨rfl, rfl⟩ := hd
    obtain ⟨g, hg⟩ := rdViolation_eq_none.1 h0
    have hx := dispAddress_ok (s := s) (isrViolation_eq_none.1 h1) (baseViolation_eq_none.1 hb) (k.signExtend 32)
    cases store
    · simpa [formEffects, rmLoadEffects, plainRd_ok hg, hx, Size.bytes] using accesses_load g .full .zero _ _ s
    · simpa [formEffects, rmStoreEffects, plainRd_ok hg, hx, Size.bytes] using accesses_store g .full _ _ s
  | rrm x rd rs1 m rs2 =>
    simp only [Instr.violation, hi, Form.violation, Option.or_eq_none_iff] at hv
    obtain ⟨h0, h1, h2, hb⟩ := hv
    obtain ⟨g, hg⟩ := rdViolation_eq_none.1 h0
    obtain ⟨rfl, w, hx⟩ := rrmAddress_of_dataAccess hi (isrViolation_eq_none.1 h1) (isrViolation_eq_none.1 h2)
      (baseViolation_eq_none.1 hb) hd
    cases hs : x.s
    · simpa [formEffects, rrmLoadEffects, plainRd_ok hg, hx, hs] using accesses_load g _ _ _ _ s
    · simpa [formEffects, rrmStoreEffects, plainRd_ok hg, hx, hs] using accesses_store g _ _ _ s
  | sls store rd a =>
    simp only [Instr.violation, hi, Form.violation] at hv
    simp only [dataAccess, hi, Option.some.injEq, Prod.mk.injEq] at hd
    obtain ⟨rfl, rfl⟩ := hd
    obtain ⟨g, hg⟩ := rdViolation_eq_none.1 hv
    cases store
    · simpa [formEffects, slsLoadEffects, plainRd_ok hg, Size.bytes] using accesses_load g .full .zero _ _ s
    · simpa [formEffects, slsStoreEffects, plainRd_ok hg, Size.bytes] using accesses_store g .full _ _ s
  | spls acc rd rs1 m k =>
    simp only [Instr.violation, hi, Form.violation, Option.or_eq_none_iff] at hv
    simp only [dataAccess, hi, Option.some.injEq, Prod.mk.injEq] at hd
    obtain ⟨h0, h1, hb⟩ := hv
    obtain ⟨rfl, rfl⟩ := hd
    obtain ⟨g, hg⟩ := rdViolation_eq_none.1 h0
    have hx := dispAddress_ok (s := s) (isrViolation_eq_none.1 h1) (baseViolation_eq_none.1 hb) (k.signExtend 32)
    cases hs : acc.s
    · simpa [formEffects, splsLoadEffects, plainRd_ok hg, hx, hs] using accesses_load g _ _ _ _ s
    · simpa [formEffects, splsStoreEffects, plainRd_ok hg, hx, hs] using accesses_store g _ _ _ s

theorem isPunt_of_dataAccess {i : Instr} {s : State} {x : Word × Nat} (h : dataAccess i s = some x) :
    isPunt i = false := by
  cases hi : i.form <;> simp_all [dataAccess, isPunt]

/-- Settles O45: an access that fails its checks, the alignment first. -/
theorem accessStops : Obligations.AccessStops := by
  intro i ea n s hv hd
  have hp := isPunt_of_dataAccess hd
  have hacc := accesses_formEffects hv hd
  exact ⟨fun ha => exec_of_error hp (hacc _ (checkAccess_misaligned ha)),
    fun ha hm => exec_of_error hp (hacc _ (checkAccess_invalid ha hm))⟩

/-! ## The collision and the jump (10_state.md R31, R33, R37) -/

theorem isPunt_of_writeReg? {i : Instr} {g : Gpr} (h : writeReg? i = some g) : isPunt i = false := by
  cases hi : i.form <;> simp_all [writeReg?, isPunt]

theorem collision_landing {e : Effects} {s : State} {l : Late} {v : Word} (hw : e.write = some (l.reg, v))
    (hl : s.lp = some l) : collision e s = some l.reg := by
  simp [collision, meeting, hw, hl]

/-- Settles O46: the effects do not depend on the slot, and their write is of the register that `writeReg?` names. -/
theorem writeCollisionRefused : Obligations.WriteCollisionRefused := by
  intro i l s t hl hw h
  have hp := isPunt_of_writeReg? hw
  obtain ⟨e, he, -⟩ := (exec_next hp).1 h
  have he' : formEffects i.form s = .ok e := he
  obtain ⟨⟨g, v⟩, hwrite, rfl⟩ := Option.map_eq_some_iff.1 ((effects_spec hp he').write.trans hw)
  exact exec_of_collision hp he' (collision_landing hwrite hl)

/-- Settles O47: the effects do not depend on the shadow, and a step that jumped has effects with a jump. -/
theorem jumpInShadowRefused : Obligations.JumpInShadowRefused := by
  intro i s t hp hs h hj
  obtain ⟨e, he, hc, hjump, rfl⟩ := (exec_next hp).1 h
  have he' : formEffects i.form s = .ok e := he
  have hc' : collision e s = none := hc
  obtain ⟨u, hu⟩ := Option.isSome_iff_exists.1 (show e.jump.isSome = true by simpa [settled] using hj)
  rw [exec_eq_runEffects hp, he', runEffects_shadow hc' hu (hjump u hu).1 hs]

/-- A result in the pc at a target that is no multiple of 4, and one whose flag update meets a landing. -/
theorem exec_of_resultJump_stops {i : Instr} {fmt : AluFormat} {f : Bool} {o : AluOut} {s : State}
    (hp : isPunt i = false) (he : formEffects i.form s = .ok (putResult fmt .pc f o s)) :
    (freeFlags f none s → aligned4 o.r = false → exec i s = .refused (.misalignedTarget o.r)) ∧
    (∀ l, f = true → s.lp = some l → flagsIn s.params l.reg ≠ none →
      exec i s = .refused (.writeCollision l.reg)) := by
  refine ⟨fun hf ha => ?_, fun l hf hl hg => ?_⟩
  · rw [exec_eq_runEffects hp, he, runEffects_misaligned (collision_putResult_pc hf) rfl ha]
  · subst hf
    exact exec_of_collision hp he (collision_flags hg nofun (.inr ⟨rfl, hl⟩))

/-- Settles O48: the effects of RI and RR on readable operands, in the pc. -/
theorem misalignedJumpRefused : Obligations.MisalignedJumpRefused := by
  constructor
  · intro i op rs1 f k o s hi h1 ho
    exact exec_of_resultJump_stops (by simp [isPunt, hi]) (by rw [hi]; exact riEffects_ok dest_pc h1 ho)
  · intro i op rs1 f rs2 o s hi h1 h2 ho
    exact exec_of_resultJump_stops (by simp [isPunt, hi]) (by rw [hi]; exact rrEffects_ok dest_pc h1 h2 ho)

end Sys2Proof.Machine
end
